-- ==== Sys2Proof/Word.lean ====
section
/-! DEFINITION. The word types of debounce_fsm: the widths of `00_scope.md` rule R6 and `10_state.md`. -/

namespace Sys2Proof

/-- A register of the host bus: 32 bits (`DW`, R6). -/
abbrev Word := BitVec 32

/-- A raw sample, a calibration bound, a threshold: 16 bits, signed (`AW`, R6). -/
abbrev Half := BitVec 16

/-- A gear value: 8 bits, signed (`GW`, R6). -/
abbrev GearVal := BitVec 8

/-- A command word: 16 bits (`CWW`, R6, R100). -/
abbrev CmdWord := BitVec 16

/-- A word address of the register space: 7 bits (`ADDRW`, R6, R70). -/
abbrev RegAddr := BitVec 7

end Sys2Proof
end

