-- ==== Sys2Proof/Syntax.lean ====
section
/-! DEFINITION. The 25 commands of the command set (`30_encoding.md` R104), one constructor per row of
spec/opcode_table.json, in the table's order. -/

namespace Sys2Proof

/-- The operand `a` of format A (R102): 0 is X, 1 is Y. -/
inductive Axis where
  | x
  | y
deriving DecidableEq, Repr

/-- The commands (R104). Format Z commands have no operand; format A commands name an axis; format N commands name a
button `n`, which is well formed below 16 (`Instr.wellFormed`). -/
inductive Instr where
  /-- R260 -/
  | nop
  /-- R262 -/
  | update
  /-- R122 -/
  | cpoll
  /-- R125 -/
  | csetsp
  /-- R126 -/
  | cisconn
  /-- R141 -/
  | aread (a : Axis)
  /-- R144 -/
  | agetpos (a : Axis)
  /-- R146 -/
  | asetpos (a : Axis)
  /-- R147 -/
  | asetinv (a : Axis)
  /-- R148 -/
  | asetcal (a : Axis)
  /-- R149 -/
  | aisinv (a : Axis)
  /-- R171 -/
  | gsetcal
  /-- R174 -/
  | gupdate
  /-- R182 -/
  | gget
  /-- R201 -/
  | ssetcal
  /-- R203 -/
  | sstep
  /-- R206 -/
  | sget
  /-- R221 -/
  | bservice
  /-- R226 -/
  | bsetled
  /-- R228 -/
  | bget (n : Nat)
  /-- R229 -/
  | bchg (n : Nat)
  /-- R230 -/
  | bany
  /-- R231 -/
  | bprs (n : Nat)
  /-- R232 -/
  | brel (n : Nat)
  /-- R234 -/
  | dpad
deriving DecidableEq, Repr

end Sys2Proof
end

