-- ==== Sys2Proof/WellFormed.lean ====
section
/-! DEFINITION. Which commands the encoding can hold (`30_encoding.md` R102). -/

namespace Sys2Proof

/-- The one check: a button number is 0 to 15, the four bits of the field `n` (R102). An axis is well formed by its type. -/
def Instr.wellFormed : Instr → Bool
  | .bget n => decide (n < 16)
  | .bchg n => decide (n < 16)
  | .bprs n => decide (n < 16)
  | .brel n => decide (n < 16)
  | .nop => true
  | .update => true
  | .cpoll => true
  | .csetsp => true
  | .cisconn => true
  | .aread _ => true
  | .agetpos _ => true
  | .asetpos _ => true
  | .asetinv _ => true
  | .asetcal _ => true
  | .aisinv _ => true
  | .gsetcal => true
  | .gupdate => true
  | .gget => true
  | .ssetcal => true
  | .sstep => true
  | .sget => true
  | .bservice => true
  | .bsetled => true
  | .bany => true
  | .dpad => true

end Sys2Proof
end

