-- ==== Sys2Proof/Decode.lean ====
section
/-! DEFINITION. The command word (`30_encoding.md` R100 to R105): the opcode map as a table of rows, the decoder, total on
all 65536 words and rejecting by name, and the encoder. -/

namespace Sys2Proof

/-- Why a command word is reserved (R105). -/
inductive DecodeError where
  /-- The opcode byte is in no row of R104. -/
  | reservedOpcode (opc : BitVec 8)
  /-- The opcode byte is in R104, and a bit of `k` that its format shows as 0 is set. -/
  | reservedOperand (opc : BitVec 8) (k : BitVec 8)
deriving DecidableEq, Repr

/-- The field `opc` (R100). -/
def opcOf (w : CmdWord) : BitVec 8 := w.extractLsb' 8 8

/-- The field `k` (R100). -/
def kOf (w : CmdWord) : BitVec 8 := w.extractLsb' 0 8

/-- Format A's operand: `a = k[0]`, 0 is X, 1 is Y (R102). -/
def axisOf (w : CmdWord) : Axis := if w.getLsbD 0 then .y else .x

/-- Format N's operand: `n = k[3:0]` (R102). -/
def buttonOf (w : CmdWord) : Nat := (w.extractLsb' 0 4).toNat

/-- One row of R104: a word is the row's when `(CW AND mask) == pattern`. -/
structure OpRow where
  pattern : CmdWord
  mask : CmdWord
  build : CmdWord → Instr

/-- A row of format Z (R102). -/
def rowZ (pattern : CmdWord) (i : Instr) : OpRow := ⟨pattern, 0xFFFF, fun _ => i⟩

/-- A row of format A (R102). -/
def rowA (pattern : CmdWord) (f : Axis → Instr) : OpRow := ⟨pattern, 0xFFFE, fun w => f (axisOf w)⟩

/-- A row of format N (R102). -/
def rowN (pattern : CmdWord) (f : Nat → Instr) : OpRow := ⟨pattern, 0xFFF0, fun w => f (buttonOf w)⟩

/-- The opcode map (R104), in its order. -/
def opTable : List OpRow :=
  [rowZ 0x0000 .nop, rowZ 0x0100 .update, rowZ 0x1000 .cpoll, rowZ 0x1100 .csetsp, rowZ 0x1200 .cisconn,
   rowA 0x2000 .aread, rowA 0x2100 .agetpos, rowA 0x2200 .asetpos, rowA 0x2300 .asetinv, rowA 0x2400 .asetcal,
   rowA 0x2500 .aisinv,
   rowZ 0x3000 .gsetcal, rowZ 0x3100 .gupdate, rowZ 0x3200 .gget,
   rowZ 0x4000 .ssetcal, rowZ 0x4100 .sstep, rowZ 0x4200 .sget,
   rowZ 0x5000 .bservice, rowZ 0x5100 .bsetled, rowN 0x5200 .bget, rowN 0x5300 .bchg, rowZ 0x5400 .bany,
   rowN 0x5500 .bprs, rowN 0x5600 .brel, rowZ 0x5700 .dpad]

/-- Whether a word is a row's (R101). -/
def OpRow.fits (r : OpRow) (w : CmdWord) : Bool := (w &&& r.mask) == r.pattern

/-- Decoding (R101): the row that fits, with its operand fields taken from `k`; a word that fits no row is reserved (R105)
and rejected by name. -/
def decode (w : CmdWord) : Except DecodeError Instr :=
  match opTable.find? (fun r => r.fits w) with
  | some r => .ok (r.build w)
  | none =>
    if opTable.any (fun r => opcOf r.pattern == opcOf w) then .error (.reservedOperand (opcOf w) (kOf w))
    else .error (.reservedOpcode (opcOf w))

/-- The operand byte of format A (R102). -/
def axisByte : Axis → BitVec 8
  | .x => 0
  | .y => 1

/-- The operand byte of format N (R102). -/
def buttonByte (n : Nat) : BitVec 8 := BitVec.ofNat 8 n

/-- The command word of a well-formed command: `opc` in bits 15:8, `k` in bits 7:0 (R100, R104). -/
def encode : Instr → CmdWord
  | .nop => 0x00#8 ++ 0#8
  | .update => 0x01#8 ++ 0#8
  | .cpoll => 0x10#8 ++ 0#8
  | .csetsp => 0x11#8 ++ 0#8
  | .cisconn => 0x12#8 ++ 0#8
  | .aread a => 0x20#8 ++ axisByte a
  | .agetpos a => 0x21#8 ++ axisByte a
  | .asetpos a => 0x22#8 ++ axisByte a
  | .asetinv a => 0x23#8 ++ axisByte a
  | .asetcal a => 0x24#8 ++ axisByte a
  | .aisinv a => 0x25#8 ++ axisByte a
  | .gsetcal => 0x30#8 ++ 0#8
  | .gupdate => 0x31#8 ++ 0#8
  | .gget => 0x32#8 ++ 0#8
  | .ssetcal => 0x40#8 ++ 0#8
  | .sstep => 0x41#8 ++ 0#8
  | .sget => 0x42#8 ++ 0#8
  | .bservice => 0x50#8 ++ 0#8
  | .bsetled => 0x51#8 ++ 0#8
  | .bget n => 0x52#8 ++ buttonByte n
  | .bchg n => 0x53#8 ++ buttonByte n
  | .bany => 0x54#8 ++ 0#8
  | .bprs n => 0x55#8 ++ buttonByte n
  | .brel n => 0x56#8 ++ buttonByte n
  | .dpad => 0x57#8 ++ 0#8

/-- The low `nbits` bits of `w` as a command word: bit 0 of the table's numbering is bit 0 of the word (R7, R100), every bit
above `nbits` is 0, and there is one word of 16 bits and no byte order (R75, R106). -/
def tableWord (nbits w : Nat) : CmdWord := BitVec.ofNat 16 (w % 2 ^ nbits)

/-- The command the decoder reads from a word numbered as spec/opcode_table.json numbers it; none where it refuses. -/
def decodeTableWord (nbits w : Nat) : Option Instr :=
  match decode (tableWord nbits w) with
  | .ok i => some i
  | .error _ => none

end Sys2Proof
end

