-- ==== Sys2Proof/Config.lean ====
section
/-! DEFINITION. The parameters of `00_scope.md` rule R6 that the rules and the reset table use, and the free values: what
the environment presents on an input pin (`20_memory.md` R76, `93_implementation_defined.md` U7). -/

namespace Sys2Proof.Config

/-- `NORM_MIN` (R6). -/
def normMin : Int := 0

/-- `NORM_MAX` (R6). -/
def normMax : Int := 1023

/-- `PCT_ONE`: the integer that stands for the fraction 1.0 (R6, R11). -/
def pctOne : Int := 100

/-- `ADC_MAX`: the top of the analog range, and the reset value of `ax[a].max` (R6, R42). -/
def adcMax : Half := 1023

/-- `STABLE_RESET` in milliseconds (R6, R42). PRESUMED by the spec itself, log 10. -/
def stableReset : Word := 250

/-- `PE_RESET` (R6, R42). PRESUMED by the spec itself, log 10. -/
def peReset : Half := 70

/-- `PR_RESET` (R6, R42). PRESUMED by the spec itself, log 10. -/
def prReset : Half := 50

/-- `PO_RESET` (R6, R42). PRESUMED by the spec itself, log 10. -/
def poReset : Half := 60

/-- `SQPE_RESET` (R6, R42). -/
def sqpeReset : Half := 70

/-- `SQPR_RESET` (R6, R42). -/
def sqprReset : Half := 50

/-- `DPADMAP_RESET` (R6, R39). -/
def dpadMapReset : Half := 0x3210

/-- The reset value of `CFG` (R26). -/
def cfgReset : BitVec 11 := 0x6FD

/-- `RST_GCAL`: the value of each of the ten gear calibration values at reset. The spec leaves it open (R6, R42).
DESIGN CHOICE, unsafe, log 6. -/
def rstGcal : Half := 0

/-- `RST_SCAL`: the value of each of the four sequential calibration values at reset. The spec leaves it open (R6, R42).
DESIGN CHOICE, unsafe, log 7. -/
def rstScal : Half := 0

/-- `RST_GS`: the value at reset of each sample register that reset leaves unwritten (`GS0` to `GS6`, per half; `SQNEU`,
`SQUP`, `SQDN`). The spec leaves it open (R6, R42). DESIGN CHOICE, unsafe, log 8. -/
def rstGs : Half := 0

/-- Free value: sample number `n` of `det_in` (R76, U7, log 2). -/
opaque freeDetIn : Nat → Bool

/-- Free value: sample number `n` of `ain0` (R76, U7, log 2). -/
opaque freeAin0 : Nat → BitVec 10

/-- Free value: sample number `n` of `ain1` (R76, U7, log 2). -/
opaque freeAin1 : Nat → BitVec 10

/-- Free value: sample number `n` of `rev_in` (R76, U7, log 2). -/
opaque freeRevIn : Nat → Bool

/-- Free value: sample number `n` of `seqmode_in` (R76, U7, log 2). -/
opaque freeSeqModeIn : Nat → Bool

/-- Free value: sample number `n` of `sr_data` (R76, U7, log 2). -/
opaque freeSrData : Nat → Bool

/-- Free value: the milliseconds that pass before sample number `n` of `now_ms` (R310, log 3). -/
opaque freeElapsed : Nat → Nat

end Sys2Proof.Config
end

