-- ==== Sys2Proof/Machine/Arith.lean ====
section
/-! DEFINITION. The numbers of `00_scope.md` R8 to R13: exact integers, division rounded toward zero, clamping,
percentages, and the passages between stored bits and integers. -/

namespace Sys2Proof.Machine

/-- `tdiv(a, b)` (R9): the quotient rounded toward zero. -/
def tdiv (a b : Int) : Int := Int.tdiv a b

/-- `clamp(v, lo, hi)` (R10). -/
def clamp (v lo hi : Int) : Int := if v < lo then lo else if v > hi then hi else v

/-- `pct(p)` (R11): a percentage register clamped to 0 to 100 hundredths. -/
def pct (p : Half) : Int := clamp p.toInt 0 Config.pctOne

/-- `scale(d, p)` (R11). -/
def scale (d p : Int) : Int := tdiv (d * p) Config.pctOne

/-- A value that a rule shows to fit 16 bits signed, as stored (R8). -/
def toHalf (v : Int) : Half := BitVec.ofInt 16 v

/-- A signed result as stored in a 32-bit register (R21). -/
def toWord (v : Int) : Word := BitVec.ofInt 32 v

/-- A gear as stored in 8 bits signed (R33). -/
def toGearVal (v : Int) : GearVal := BitVec.ofInt 8 v

/-- A boolean as stored in a 32-bit register (R13). -/
def boolWord (b : Bool) : Word := if b then 1 else 0

/-- `s16(v[15:0])` (R8): the low half of a word. -/
def lowHalf (w : Word) : Half := w.extractLsb' 0 16

/-- `s16(v[31:16])` (R8, R170): the high half of a word. -/
def highHalf (w : Word) : Half := w.extractLsb' 16 16

/-- `sext_32` of a 16-bit register (R27). -/
def sextHalf (h : Half) : Word := h.signExtend 32

/-- `w[i] <- b` (R224). -/
def writeBit (w : Half) (i : Nat) (b : Bool) : Half :=
  (w &&& ~~~(1#16 <<< i)) ||| (if b then 1#16 <<< i else 0)

end Sys2Proof.Machine
end

