-- ==== Sys2Proof/Machine/State.lean ====
section
/-! DEFINITION. The state of the block, as plain data: every element of `10_state.md` R20 to R39, and, in `env`, the world
around the block as the model holds it (the host's pending moves, the environment's answers, what the block has shown).
`State.reset` is the table of R42. -/

namespace Sys2Proof.Machine

/-- ConnectionState (R31). -/
inductive ConnState where
  | disconnected
  | plugIn
  | connected
  | unplug
deriving DecidableEq, Repr

/-- The connection monitor (R30). -/
structure Conn where
  state : ConnState
  level : Bool
  lastChange : Word
  stable : Word
deriving DecidableEq, Repr

/-- The six flags of `FLAGS` (R24). -/
structure Flags where
  chg : Bool
  chgBtn : Bool
  chgGear : Bool
  chgSeq : Bool
  chgAx0 : Bool
  chgAx1 : Bool
deriving DecidableEq, Repr

/-- One axis instance (R32); the three elements are signed. -/
structure AxisState where
  raw : Half
  min : Half
  max : Half
deriving DecidableEq, Repr

/-- The gear decoder (R33); the gears are signed. -/
structure Gear where
  cur : GearVal
  prev : GearVal
  rev : Bool
deriving DecidableEq, Repr

/-- The gear calibration (R34), ten signed values. -/
structure GearCal where
  neutX : Half
  neutY : Half
  oddTrig : Half
  oddRel : Half
  evenTrig : Half
  evenRel : Half
  left : Half
  right : Half
  nrawX : Half
  nrawY : Half
deriving DecidableEq, Repr

/-- The calibration input registers (R35, R37). `gs0` to `gs6` hold a pair: y in bits 31:16, x in bits 15:0. -/
structure CalInputs where
  gs0 : Word
  gs1 : Word
  gs2 : Word
  gs3 : Word
  gs4 : Word
  gs5 : Word
  gs6 : Word
  gpEng : Half
  gpRel : Half
  gpEdge : Half
  sqNeu : Half
  sqUp : Half
  sqDn : Half
  sqpEng : Half
  sqpRel : Half
deriving DecidableEq, Repr

/-- The sequential decoder (R36); `state` is a 2-bit signed tri-state. -/
structure Seq where
  state : BitVec 2
  active : Bool
deriving DecidableEq, Repr

/-- The sequential calibration (R37), four signed values. -/
structure SeqCal where
  upTrig : Half
  upRel : Half
  dnTrig : Half
  dnRel : Half
deriving DecidableEq, Repr

/-- The bus controller's words and LED command (R38). -/
structure Srb where
  cur : Half
  prev : Half
  ledCmd : Bool
  driven : Bool
deriving DecidableEq, Repr

/-- The output value registers and enables of the three lines (R38). -/
structure Pins where
  latchO : Bool
  clockO : Bool
  ledO : Bool
  ledOe : Bool
  busOe : Bool
deriving DecidableEq, Repr

/-- MODEL's own. The environment's answers at one input pin: the samples already decided, next first, and how many have been
taken. With none decided, the next sample is a free value of Config (log 2). -/
structure Feed (α : Type) where
  given : List α
  taken : Nat
deriving DecidableEq, Repr

/-- MODEL's own. One move of the host (R71 to R73, R300; log 1, log 9). -/
inductive HostMove where
  /-- `MemRead(addr, 4)` (R72). -/
  | read (addr : RegAddr)
  /-- `MemWrite(addr, 4, data)` (R73). -/
  | write (addr : RegAddr) (data : Word)
  /-- `rst_n` driven to a level (R300). -/
  | rst (level : Bool)
deriving DecidableEq, Repr

/-- MODEL's own. One pin event of a command (R77). -/
inductive PinEvent where
  /-- `PinWrite(latch, v)` -/
  | latch (v : Bool)
  /-- `PinWrite(clock, v)` -/
  | clock (v : Bool)
  /-- `PinWrite(led, v)` -/
  | led (v : Bool)
  /-- `PinEnable(bus, e)` -/
  | busEnable (e : Bool)
  /-- `PinEnable(led, e)` -/
  | ledEnable (e : Bool)
  /-- `PinRead(sr_data)`, with the value it returned -/
  | sample (v : Bool)
deriving DecidableEq, Repr

/-- MODEL's own. The world around the block: what the host will do, what the environment answers, and what the block has
shown (INVENTORY.md, '## State', second table). -/
structure Env where
  moves : List HostMove
  rstN : Bool
  rdata : Word
  events : List PinEvent
  clock : Nat
  elapsed : Feed Nat
  detIn : Feed Bool
  ain0 : Feed (BitVec 10)
  ain1 : Feed (BitVec 10)
  revIn : Feed Bool
  seqModeIn : Feed Bool
  srData : Feed Bool
deriving DecidableEq, Repr

/-- The state (R20): the block's elements, and `env`. -/
structure State where
  arg0 : Word
  arg1 : Word
  res : Word
  cfg : BitVec 11
  flags : Flags
  conn : Conn
  ax0 : AxisState
  ax1 : AxisState
  gear : Gear
  gc : GearCal
  cal : CalInputs
  seq : Seq
  sc : SeqCal
  srb : Srb
  pin : Pins
  dpadMap : Half
  env : Env
deriving DecidableEq, Repr

/-- The block raises no exception, trap or fault (R280): there is no fault, and no constructor. -/
inductive Fault where
deriving DecidableEq, Repr

/-- Why a step has no meaning. -/
inductive Refusal where
  /-- Raised by an arm of exec whose command has no meaning yet; no arm uses it. Safe. -/
  | notModelled (mnemonic : String)
  /-- Raised by the step, never by a command, for a host read or write while `rst_n` is 0: "A host transfer while `rst_n`
  is 0 is not answered" (R300), which U10 says a model refuses. Safe. -/
  | transferDuringReset
deriving DecidableEq, Repr

/-- A feed with no sample decided and none taken. -/
def Feed.empty {α : Type} : Feed α := ⟨[], 0⟩

/-- MODEL's own. The world at reset: nothing pending, nothing shown, no sample decided (log 1, 2, 3, 9, 11, 12). -/
def Env.start : Env where
  moves := []
  rstN := true
  rdata := 0
  events := []
  clock := 0
  elapsed := Feed.empty
  detIn := Feed.empty
  ain0 := Feed.empty
  ain1 := Feed.empty
  revIn := Feed.empty
  seqModeIn := Feed.empty
  srData := Feed.empty

/-- The block's elements at the values of R42, in a given world. The ten `gc` values, the four `sc` values and the ten
sample registers have no value in R42: log 6, 7, 8. -/
def State.resetIn (e : Env) : State where
  arg0 := 0
  arg1 := 0
  res := 0
  cfg := Config.cfgReset
  flags := ⟨false, false, false, false, false, false⟩
  conn := ⟨.connected, true, 0, Config.stableReset⟩
  ax0 := ⟨0, 0, Config.adcMax⟩
  ax1 := ⟨0, 0, Config.adcMax⟩
  gear := ⟨0, 0, false⟩
  gc := ⟨Config.rstGcal, Config.rstGcal, Config.rstGcal, Config.rstGcal, Config.rstGcal, Config.rstGcal, Config.rstGcal,
    Config.rstGcal, Config.rstGcal, Config.rstGcal⟩
  cal := {
    gs0 := Config.rstGs ++ Config.rstGs
    gs1 := Config.rstGs ++ Config.rstGs
    gs2 := Config.rstGs ++ Config.rstGs
    gs3 := Config.rstGs ++ Config.rstGs
    gs4 := Config.rstGs ++ Config.rstGs
    gs5 := Config.rstGs ++ Config.rstGs
    gs6 := Config.rstGs ++ Config.rstGs
    gpEng := Config.peReset
    gpRel := Config.prReset
    gpEdge := Config.poReset
    sqNeu := Config.rstGs
    sqUp := Config.rstGs
    sqDn := Config.rstGs
    sqpEng := Config.sqpeReset
    sqpRel := Config.sqprReset }
  seq := ⟨0, false⟩
  sc := ⟨Config.rstScal, Config.rstScal, Config.rstScal, Config.rstScal⟩
  srb := ⟨0, 0, false, false⟩
  pin := ⟨false, false, false, false, false⟩
  dpadMap := Config.dpadMapReset
  env := e

/-- The machine right after reset (R42, R300). -/
def State.reset : State := State.resetIn Env.start

/-! One update per element of State; every meaning writes through these (Laws/State.lean has a lemma per field). -/

def State.setArg0 (s : State) (v : Word) : State := { s with arg0 := v }
def State.setArg1 (s : State) (v : Word) : State := { s with arg1 := v }
def State.setRes (s : State) (v : Word) : State := { s with res := v }
def State.setCfg (s : State) (v : BitVec 11) : State := { s with cfg := v }
def State.setFlags (s : State) (v : Flags) : State := { s with flags := v }
def State.setConn (s : State) (v : Conn) : State := { s with conn := v }
def State.setAx0 (s : State) (v : AxisState) : State := { s with ax0 := v }
def State.setAx1 (s : State) (v : AxisState) : State := { s with ax1 := v }
def State.setGear (s : State) (v : Gear) : State := { s with gear := v }
def State.setGc (s : State) (v : GearCal) : State := { s with gc := v }
def State.setCal (s : State) (v : CalInputs) : State := { s with cal := v }
def State.setSeq (s : State) (v : Seq) : State := { s with seq := v }
def State.setSc (s : State) (v : SeqCal) : State := { s with sc := v }
def State.setSrb (s : State) (v : Srb) : State := { s with srb := v }
def State.setPin (s : State) (v : Pins) : State := { s with pin := v }
def State.setDpadMap (s : State) (v : Half) : State := { s with dpadMap := v }
def State.setEnv (s : State) (v : Env) : State := { s with env := v }

end Sys2Proof.Machine
end

