-- ==== Sys2Proof/Machine/Flags.lean ====
section
/-! DEFINITION. The flags (`10_state.md` R24): their register word, each flag's computation, and the updates of one flag. -/

namespace Sys2Proof.Machine

/-- The register word of `FLAGS`: bit 0 `CHG`, 1 `CHG_BTN`, 2 `CHG_GEAR`, 3 `CHG_SEQ`, 4 `CHG_AX0`, 5 `CHG_AX1`; bits 31 to
6 read 0 (R24). -/
def Flags.word (f : Flags) : Word :=
  (BitVec.ofBool f.chgAx1 ++ BitVec.ofBool f.chgAx0 ++ BitVec.ofBool f.chgSeq ++ BitVec.ofBool f.chgGear
    ++ BitVec.ofBool f.chgBtn ++ BitVec.ofBool f.chg).setWidth 32

/-- `CHG_AXa` after a sample of a used port (R141): the samples differ and are not both strictly below the lower, nor both
strictly above the upper, sorted bound. -/
def axisChanged (lo hi old new : Int) : Bool :=
  decide (new ≠ old) && !(decide (old < lo) && decide (new < lo)) && !(decide (old > hi) && decide (new > hi))

/-- `CHG_BTN` (R221): the two words differ. -/
def buttonsChanged (cur prev : Half) : Bool := decide (cur ≠ prev)

/-- `CHG_GEAR` (R175, R176): the gear committed differs from the gear before. -/
def gearChanged (before after : Int) : Bool := decide (after ≠ before)

/-- `CHG_SEQ` (R203): the tri-state differs from the one before. -/
def seqChanged (old new : Int) : Bool := decide (new ≠ old)

/-- `CHG` (R262). -/
def anyChanged (f : Flags) : Bool := f.chgBtn || f.chgGear || f.chgSeq

/-- `FLAGS.CHG_AX<a> <- c` (R141). -/
def Flags.withAx (f : Flags) : Axis → Bool → Flags
  | .x, c => { f with chgAx0 := c }
  | .y, c => { f with chgAx1 := c }

/-- `FLAGS.CHG_BTN <- c` (R221). -/
def Flags.withBtn (f : Flags) (c : Bool) : Flags := { f with chgBtn := c }

/-- `FLAGS.CHG_GEAR <- c` (R175, R176, R203). -/
def Flags.withGear (f : Flags) (c : Bool) : Flags := { f with chgGear := c }

/-- `FLAGS.CHG_SEQ <- c` (R203). -/
def Flags.withSeq (f : Flags) (c : Bool) : Flags := { f with chgSeq := c }

/-- `FLAGS.CHG <- c` (R262). -/
def Flags.withChg (f : Flags) (c : Bool) : Flags := { f with chg := c }

end Sys2Proof.Machine
end

