-- ==== Sys2Proof/Machine/Operands.lean ====
section
/-! DEFINITION. What a command reads as an operand: `ARG0` and `ARG1` (`30_encoding.md` R103), the fields of `CFG` (R26),
the calibration input registers (R35, R37, R170), the axis and the button that `k` names (R102), the D-pad map (R39). -/

namespace Sys2Proof.Machine

/-! `CFG` (R26). -/

/-- `CFG.DET_EN` -/
def State.detEn (s : State) : Bool := s.cfg[0]
/-- `CFG.DET_INV` -/
def State.detInv (s : State) : Bool := s.cfg[1]
/-- `CFG.REV_EN` -/
def State.revEn (s : State) : Bool := s.cfg[2]
/-- `CFG.SEQ_EN` -/
def State.seqEn (s : State) : Bool := s.cfg[3]
/-- `CFG.SRB_EN` -/
def State.srbEn (s : State) : Bool := s.cfg[4]
/-- `CFG.LED_EN` -/
def State.ledEn (s : State) : Bool := s.cfg[5]
/-- `CFG.AX0_EN` for X, `CFG.AX1_EN` for Y -/
def State.axEn (s : State) : Axis → Bool
  | .x => s.cfg[6]
  | .y => s.cfg[7]

/-- `MINGEAR` (R170): −1 when a reverse signal is wired, else 0. -/
def State.minGear (s : State) : Int := if s.revEn then -1 else 0

/-- `MAXGEAR` (R26, R170): `CFG[10:8]`. -/
def State.maxGear (s : State) : Int := (s.cfg.extractLsb' 8 3).toNat

/-! `ARG0` and `ARG1` (R103). -/

/-- CSETSP: `t = zext_32(ARG0)`. -/
def State.argStable (s : State) : Word := s.arg0
/-- AGETPOS: `outMin = sext_32(ARG0)`. -/
def State.argOutMin (s : State) : Int := s.arg0.toInt
/-- AGETPOS: `outMax = sext_32(ARG1)`. -/
def State.argOutMax (s : State) : Int := s.arg1.toInt
/-- ASETPOS: `raw = s16(ARG0[15:0])`. -/
def State.argRaw (s : State) : Half := lowHalf s.arg0
/-- ASETINV: `flag = ARG0[0]`. -/
def State.argInvert (s : State) : Bool := s.arg0[0]
/-- ASETCAL: `min = s16(ARG0[15:0])`. -/
def State.argMin (s : State) : Half := lowHalf s.arg0
/-- ASETCAL: `max = s16(ARG1[15:0])`. -/
def State.argMax (s : State) : Half := lowHalf s.arg1
/-- BSETLED: `v = ARG0[0]`. -/
def State.argLed (s : State) : Bool := s.arg0[0]

/-! Operands named by `k` (R102). -/

/-- `ax[a]`: 0 is X, 1 is Y. -/
def State.ax (s : State) : Axis → AxisState
  | .x => s.ax0
  | .y => s.ax1

/-- The same element written. -/
def State.setAx (s : State) : Axis → AxisState → State
  | .x, v => s.setAx0 v
  | .y, v => s.setAx1 v

/-- Bit `n` of a button word: "bit i = button i" (R38, R228). -/
def button (w : Half) (n : Nat) : Bool := w.getLsbD n

/-! Calibration input registers (R170). -/

/-- `xk = s16(GSk[15:0])` -/
def sampleX (gs : Word) : Int := (lowHalf gs).toInt
/-- `yk = s16(GSk[31:16])` -/
def sampleY (gs : Word) : Int := (highHalf gs).toInt

/-! The D-pad map (R39): the button of each cardinal direction. -/

/-- `DPADMAP[3:0]` -/
def State.upButton (s : State) : Nat := (s.dpadMap.extractLsb' 0 4).toNat
/-- `DPADMAP[7:4]` -/
def State.rightButton (s : State) : Nat := (s.dpadMap.extractLsb' 4 4).toNat
/-- `DPADMAP[11:8]` -/
def State.downButton (s : State) : Nat := (s.dpadMap.extractLsb' 8 4).toNat
/-- `DPADMAP[15:12]` -/
def State.leftButton (s : State) : Nat := (s.dpadMap.extractLsb' 12 4).toNat

end Sys2Proof.Machine
end

