-- ==== Sys2Proof/Machine/Ops.lean ====
section
/-! DEFINITION. The named operations every family shares: samples of the input pins (`20_memory.md` R76), the output pins
and their wires (R77, R78, R40), the results. The block has no exception and no return from one (`60_exceptions.md` R280,
R285, R286), so no operation here takes one. -/

namespace Sys2Proof.Machine

/-! Feeds (log 2). -/

/-- The sample a feed gives next: the first one decided, or the pin's free value at this sample's number. -/
def Feed.peek {α : Type} (free : Nat → α) (f : Feed α) : α :=
  match f.given with
  | v :: _ => v
  | [] => free f.taken

/-- The feed after its next sample was taken. -/
def Feed.advance {α : Type} (f : Feed α) : Feed α := ⟨f.given.tail, f.taken + 1⟩

/-! `PinRead` (R76): for each pin, the value the environment presents next, and the state after it was sampled. -/

/-- What `PinRead(det_in)` gives next. -/
def State.detIn (s : State) : Bool := s.env.detIn.peek Config.freeDetIn
/-- After `PinRead(det_in)`. -/
def State.takeDetIn (s : State) : State := s.setEnv { s.env with detIn := s.env.detIn.advance }

/-- What `PinRead(ain0)` (X) or `PinRead(ain1)` (Y) gives next: 0 to 1023. -/
def State.ain (s : State) : Axis → BitVec 10
  | .x => s.env.ain0.peek Config.freeAin0
  | .y => s.env.ain1.peek Config.freeAin1
/-- After `PinRead(ain0)` or `PinRead(ain1)`. -/
def State.takeAin (s : State) : Axis → State
  | .x => s.setEnv { s.env with ain0 := s.env.ain0.advance }
  | .y => s.setEnv { s.env with ain1 := s.env.ain1.advance }

/-- What `PinRead(rev_in)` gives next. -/
def State.revIn (s : State) : Bool := s.env.revIn.peek Config.freeRevIn
/-- After `PinRead(rev_in)`. -/
def State.takeRevIn (s : State) : State := s.setEnv { s.env with revIn := s.env.revIn.advance }

/-- What `PinRead(seqmode_in)` gives next. -/
def State.seqModeIn (s : State) : Bool := s.env.seqModeIn.peek Config.freeSeqModeIn
/-- After `PinRead(seqmode_in)`. -/
def State.takeSeqModeIn (s : State) : State := s.setEnv { s.env with seqModeIn := s.env.seqModeIn.advance }

/-- The milliseconds that pass before the next sample of `now_ms` (R310, log 3). -/
def State.elapsedNext (s : State) : Nat := s.env.elapsed.peek Config.freeElapsed
/-- What `PinRead(now_ms)` gives next: the environment's count after that time, modulo 2^32 (R310). -/
def State.nowMs (s : State) : Word := BitVec.ofNat 32 (s.env.clock + s.elapsedNext)
/-- After `PinRead(now_ms)`. -/
def State.takeNowMs (s : State) : State :=
  s.setEnv { s.env with clock := s.env.clock + s.elapsedNext, elapsed := s.env.elapsed.advance }

/-! Pin events (R77, log 11). -/

/-- The event is seen by the environment, after those before it. -/
def State.emit (s : State) (e : PinEvent) : State := s.setEnv { s.env with events := s.env.events ++ [e] }

/-- What `PinRead(sr_data)` gives next. -/
def State.srData (s : State) : Bool := s.env.srData.peek Config.freeSrData
/-- After `PinRead(sr_data)`, which is a pin event (R77). -/
def State.takeSrData (s : State) : State :=
  (s.emit (.sample s.srData)).setEnv
    { (s.emit (.sample s.srData)).env with srData := s.env.srData.advance }

/-- `PinWrite(latch, v)` (R77). -/
def State.writeLatch (s : State) (v : Bool) : State := (s.setPin { s.pin with latchO := v }).emit (.latch v)
/-- `PinWrite(clock, v)` (R77). -/
def State.writeClock (s : State) (v : Bool) : State := (s.setPin { s.pin with clockO := v }).emit (.clock v)
/-- `PinWrite(led, v)` (R77). -/
def State.writeLed (s : State) (v : Bool) : State := (s.setPin { s.pin with ledO := v }).emit (.led v)
/-- `PinEnable(bus, e)` (R77): latch and clock together. -/
def State.enableBus (s : State) (e : Bool) : State := (s.setPin { s.pin with busOe := e }).emit (.busEnable e)
/-- `PinEnable(led, e)` (R77). -/
def State.enableLed (s : State) (e : Bool) : State := (s.setPin { s.pin with ledOe := e }).emit (.ledEnable e)

/-- `Hold()` (R78): it changes no state; the time is not modelled (log 13). -/
def State.hold (s : State) : State := s

/-! The wires of the tri-state lines (R40): a value while driven, none while high impedance (log 14). -/

/-- A tri-state line. -/
def wire (value enable : Bool) : Option Bool := if enable then some value else none
/-- `sr_latch` -/
def State.wireLatch (s : State) : Option Bool := wire s.pin.latchO s.pin.busOe
/-- `sr_clock` -/
def State.wireClock (s : State) : Option Bool := wire s.pin.clockO s.pin.busOe
/-- `sr_led` -/
def State.wireLed (s : State) : Option Bool := wire s.pin.ledO s.pin.ledOe

/-! Connection and results. -/

/-- `conn.state == Connected` (R126). -/
def State.isConnected (s : State) : Bool := decide (s.conn.state = .connected)

/-- `RES <- v` for a boolean `v` (R13, R21). -/
def State.resBool (s : State) (b : Bool) : State := s.setRes (boolWord b)

/-- `RES <- sext_32(v)` for a signed `v` (R21). -/
def State.resInt (s : State) (v : Int) : State := s.setRes (toWord v)

end Sys2Proof.Machine
end

