-- ==== Sys2Proof/Machine/Conn.lean ====
section
/-! DEFINITION. The connection monitor's commands (`41_conn.md`): CPOLL, CSETSP, CISCONN. -/

namespace Sys2Proof.Machine

/-- `elapsed(now)` (R120): the time since the last recorded change, modulo 2^32. -/
def elapsedSince (c : Conn) (now : Word) : Word := now - c.lastChange

/-- The level `DetLevel()` returns (R121): an unused port reads active, without inversion. -/
def State.detLevel (s : State) : Bool := if s.detEn then s.detIn ^^ s.detInv else true

/-- The state after `DetLevel()` (R121): an unused port is not sampled. -/
def State.afterDetLevel (s : State) : State := if s.detEn then s.takeDetIn else s

/-- The monitor after a poll that read the level `lvl` and the time `now`, branch (a) apart (R122 (b) to (e)). -/
def Conn.polled (c : Conn) (lvl : Bool) (now : Word) : Conn :=
  if lvl ≠ c.level then
    { c with level := lvl, lastChange := now, state := if lvl then .plugIn else .unplug }
  else if lvl then
    if c.stable ≤ elapsedSince c now then { c with state := .connected } else c
  else
    if c.state = .unplug then { c with state := .disconnected } else c

/-- CPOLL (R122), as a change of state: the short circuit (a) is first and does not sample `now_ms`. -/
def cpoll (s : State) : State :=
  if s.detLevel ∧ s.conn.state = .connected then s.afterDetLevel
  else s.afterDetLevel.takeNowMs.setConn (s.conn.polled s.detLevel s.afterDetLevel.nowMs)

/-- CPOLL (R122). -/
def execCpoll (s : State) : Host.Outcome State Fault Refusal := .next (cpoll s)

/-- The monitor after `setStablePeriod(t)` in state Connected at the time `now` (R125). -/
def Conn.restabled (c : Conn) (t now : Word) : Conn :=
  if elapsedSince c now < t then { c with stable := t, lastChange := now - t } else { c with stable := t }

/-- CSETSP (R125): `now_ms` is sampled only in state Connected. -/
def execCsetsp (s : State) : Host.Outcome State Fault Refusal :=
  .next
    (if s.isConnected then s.takeNowMs.setConn (s.conn.restabled s.argStable s.nowMs)
     else s.setConn { s.conn with stable := s.argStable })

/-- CISCONN (R126). -/
def execCisconn (s : State) : Host.Outcome State Fault Refusal := .next (s.resBool s.isConnected)

end Sys2Proof.Machine
end

