-- ==== Sys2Proof/Machine/Remap.lean ====
section
/-! DEFINITION. The helper functions of an axis's calibration and the saturating remap (`42_axis.md` R140, R143), shared by
the axis and the gear families. -/

namespace Sys2Proof.Machine

/-- `inverted(a)` (R140): `min > max`. -/
def AxisState.inverted (c : AxisState) : Bool := decide (c.min.toInt > c.max.toInt)

/-- `lo(a)` (R140): the sorted lower bound. -/
def AxisState.lo (c : AxisState) : Int := Min.min c.min.toInt c.max.toInt

/-- `hi(a)` (R140): the sorted upper bound. -/
def AxisState.hi (c : AxisState) : Int := Max.max c.min.toInt c.max.toInt

/-- The raw value after the reflection of an inverted calibration (R143). -/
def AxisState.reflected (c : AxisState) (v : Int) : Int := if c.inverted then c.lo + c.hi - v else v

/-- `remap(a, v, oMin, oMax)` (R143): the low saturation is tested first; all arithmetic is exact. -/
def AxisState.remap (c : AxisState) (v oMin oMax : Int) : Int :=
  if c.reflected v ≤ c.lo then oMin
  else if c.reflected v ≥ c.hi then oMax
  else oMin + tdiv ((c.reflected v - c.lo) * (oMax - oMin)) (c.hi - c.lo)

/-- `norm(a)` (R170): the position in the normalised range. -/
def AxisState.norm (c : AxisState) : Int := c.remap c.raw.toInt Config.normMin Config.normMax

end Sys2Proof.Machine
end

