-- ==== Sys2Proof/Machine/Axis.lean ====
section
/-! DEFINITION. The axis commands (`42_axis.md`): AREAD, AGETPOS, ASETPOS, ASETINV, ASETCAL, AISINV. -/

namespace Sys2Proof.Machine

/-- `zext_10` of a sample, as stored in the 16-bit buffer (R141). -/
def rawOfSample (v : BitVec 10) : Half := v.setWidth 16

/-- Whether a read of axis `a` will report changed (R141): never for an unused port. -/
def State.readChanged (s : State) (a : Axis) : Bool :=
  if s.axEn a then
    axisChanged (s.ax a).lo (s.ax a).hi (s.ax a).raw.toInt (rawOfSample (s.ain a)).toInt
  else false

/-- The state after the sample of a read: the buffer holds it; an unused port is not sampled and keeps its buffer (R141). -/
def State.sampled (s : State) (a : Axis) : State :=
  if s.axEn a then (s.takeAin a).setAx a { s.ax a with raw := rawOfSample (s.ain a) } else s

/-- AREAD (R141), as a change of state; the gear decoder calls it too (R176). -/
def aread (a : Axis) (s : State) : State :=
  ((s.sampled a).setFlags (s.flags.withAx a (s.readChanged a))).resBool (s.readChanged a)

/-- AREAD (R141). -/
def execAread (a : Axis) (s : State) : Host.Outcome State Fault Refusal := .next (aread a s)

/-- AGETPOS (R144). -/
def execAgetpos (a : Axis) (s : State) : Host.Outcome State Fault Refusal :=
  .next (s.resInt ((s.ax a).remap (s.ax a).raw.toInt s.argOutMin s.argOutMax))

/-- ASETPOS (R146). -/
def execAsetpos (a : Axis) (s : State) : Host.Outcome State Fault Refusal :=
  .next (s.setAx a { s.ax a with raw := s.argRaw })

/-- ASETINV (R147). -/
def execAsetinv (a : Axis) (s : State) : Host.Outcome State Fault Refusal :=
  .next
    (if (s.ax a).inverted ≠ s.argInvert then
      s.setAx a { s.ax a with min := (s.ax a).max, max := (s.ax a).min }
    else s)

/-- ASETCAL (R148). -/
def execAsetcal (a : Axis) (s : State) : Host.Outcome State Fault Refusal :=
  .next (s.setAx a { s.ax a with min := s.argMin, max := s.argMax })

/-- AISINV (R149). -/
def execAisinv (a : Axis) (s : State) : Host.Outcome State Fault Refusal := .next (s.resBool (s.ax a).inverted)

end Sys2Proof.Machine
end

