-- ==== Sys2Proof/Machine/Gear.lean ====
section
/-! DEFINITION. The gear decoder's commands (`43_gear.md`): GSETCAL, GUPDATE, GGET, and the micro-operations GearIdle,
GearDecode, GearForce and BoundGear. -/

namespace Sys2Proof.Machine

/-! GSETCAL (R171). -/

/-- The calibration of the X axis: the averaged low and high columns become its bounds (R171). -/
def CalInputs.xAxis (c : CalInputs) (raw : Half) : AxisState where
  raw := raw
  min := toHalf (tdiv (sampleX c.gs1 + sampleX c.gs2) 2)
  max := toHalf (tdiv (sampleX c.gs5 + sampleX c.gs6) 2)

/-- The calibration of the Y axis: the averaged even and odd rows become its bounds (R171). -/
def CalInputs.yAxis (c : CalInputs) (raw : Half) : AxisState where
  raw := raw
  min := toHalf (tdiv (sampleY c.gs2 + sampleY c.gs4 + sampleY c.gs6) 3)
  max := toHalf (tdiv (sampleY c.gs1 + sampleY c.gs3 + sampleY c.gs5) 3)

/-- The thresholds from the normalised neutral position and the percentages, and the raw neutral pair (R171). -/
def gearThresholds (nx ny pe pr po : Int) (nrawX nrawY : Half) : GearCal where
  neutX := toHalf nx
  neutY := toHalf ny
  oddTrig := toHalf (ny + scale (Config.normMax - ny) pe)
  oddRel := toHalf (ny + scale (Config.normMax - ny) pr)
  evenTrig := toHalf (ny - scale (ny - Config.normMin) pe)
  evenRel := toHalf (ny - scale (ny - Config.normMin) pr)
  left := toHalf (nx - scale (nx - Config.normMin) po)
  right := toHalf (nx + scale (Config.normMax - nx) po)
  nrawX := nrawX
  nrawY := nrawY

/-- The gear calibration that the input registers give, with the two axis calibrations just written (R171). -/
def CalInputs.gearCal (c : CalInputs) (x y : AxisState) : GearCal :=
  gearThresholds
    (x.remap (sampleX c.gs0) Config.normMin Config.normMax)
    (y.remap (sampleY c.gs0) Config.normMin Config.normMax)
    (pct c.gpEng) (pct c.gpRel) (pct c.gpEdge) (lowHalf c.gs0) (highHalf c.gs0)

/-- GSETCAL (R171). -/
def execGsetcal (s : State) : Host.Outcome State Fault Refusal :=
  .next
    (((s.setAx0 (s.cal.xAxis s.ax0.raw)).setAx1 (s.cal.yAxis s.ax1.raw)).setGc
      (s.cal.gearCal (s.cal.xAxis s.ax0.raw) (s.cal.yAxis s.ax1.raw)))

/-! The decode (R176). -/

/-- `BoundGear(g)` (R180). -/
def State.boundGear (s : State) (g : Int) : Int := if s.minGear ≤ g ∧ g ≤ s.maxGear then g else 0

/-- Step 1: gears 1, 3, 5. -/
def oddGear (p : Int) : Bool := decide (p = 1 ∨ p = 3 ∨ p = 5)

/-- Step 1: gears 2, 4, 6. -/
def evenGear (p : Int) : Bool := decide (p = 2 ∨ p = 4 ∨ p = 6)

/-- Step 2: hysteresis retention. -/
def GearCal.retains (c : GearCal) (p y : Int) : Bool :=
  (oddGear p && decide (y > c.oddRel.toInt)) || (evenGear p && decide (y < c.evenRel.toInt))

/-- Step 3: the row; the odd-row test is first. -/
def GearCal.row (c : GearCal) (y : Int) : Int :=
  if y > c.oddTrig.toInt then 1 else if y < c.evenTrig.toInt then 2 else 0

/-- Step 4: what the column adds; the right-column test is first. -/
def GearCal.column (c : GearCal) (x : Int) : Int :=
  if x > c.right.toInt then 4 else if x ≥ c.left.toInt then 2 else 0

/-- Step 5: the reverse interlock on the computed slot; gear 5 first, then gear 6. -/
def interlock (rev : Bool) (p g : Int) : Int :=
  let g5 := if rev = true ∧ g = 5 then 0 else g
  if (rev = true ∨ p = -1) ∧ g5 = 6 then -1 else g5

/-- Steps 2 to 5: the gear before `BoundGear`, from the previous gear and the normalised position. -/
def GearCal.choose (c : GearCal) (rev : Bool) (p x y : Int) : Int :=
  if c.retains p y then p
  else if c.row y = 0 then 0
  else interlock rev p (c.row y + c.column x)

/-- `gear.rev <- (CFG.REV_EN == 1) ? PinRead(rev_in) : 0`: the snapshot taken (R176). -/
def State.revSnapshot (s : State) : Bool := if s.revEn then s.revIn else false

/-- After the snapshot: an unused port is not sampled (R176, R41). -/
def State.afterRevSnapshot (s : State) : State := if s.revEn then s.takeRevIn else s

/-- GearDecode's commit, on a state whose two axes are read: the snapshot, steps 1 to 6 (R176). -/
def State.decodeGear (s : State) : State :=
  let p := s.gear.cur.toInt
  let rev := s.revSnapshot
  let g := s.boundGear (s.gc.choose rev p s.ax0.norm s.ax1.norm)
  (s.afterRevSnapshot.setGear { cur := toGearVal g, prev := s.gear.cur, rev := rev }).setFlags
    (s.flags.withGear (gearChanged p g))

/-- `GearDecode()` (R176): X is read first, then Y. -/
def gearDecode (s : State) : State := (aread .y (aread .x s)).decodeGear

/-- `GearIdle()` (R175): the disconnect path. -/
def gearIdle (s : State) : State :=
  (((s.setAx0 { s.ax0 with raw := s.gc.nrawX }).setAx1 { s.ax1 with raw := s.gc.nrawY }).setGear
    { s.gear with prev := s.gear.cur, cur := 0 }).setFlags
      (s.flags.withGear (gearChanged s.gear.cur.toInt 0))

/-- GUPDATE's choice of path (R174). -/
def gearCycle (s : State) : State := if s.isConnected then gearDecode s else gearIdle s

/-- GUPDATE (R174), as a change of state. -/
def gupdate (s : State) : State := (gearCycle s).resBool (gearCycle s).flags.chgGear

/-- GUPDATE (R174). -/
def execGupdate (s : State) : Host.Outcome State Fault Refusal := .next (gupdate s)

/-- `GearForce(g)` (R181): it does not write `CHG_GEAR`. -/
def State.gearForce (s : State) (g : Int) : State :=
  s.setGear { s.gear with prev := s.gear.cur, cur := toGearVal (s.boundGear g) }

/-- GGET (R182). -/
def execGget (s : State) : Host.Outcome State Fault Refusal := .next (s.resInt s.gear.cur.toInt)

end Sys2Proof.Machine
end

