-- ==== Sys2Proof/Machine/Seq.lean ====
section
/-! DEFINITION. The sequential decoder's commands (`44_seq.md`): SSETCAL, SSTEP, SGET. -/

namespace Sys2Proof.Machine

/-- The release percentage, lowered to the engage percentage when above it; both are clamped first (R201). -/
def CalInputs.seqRelease (c : CalInputs) : Int :=
  if pct c.sqpRel > pct c.sqpEng then pct c.sqpEng else pct c.sqpRel

/-- The sequential calibration the input registers give (R201). -/
def CalInputs.seqCal (c : CalInputs) : SeqCal :=
  let n := c.sqNeu.toInt
  let upRange := c.sqUp.toInt - n
  let dnRange := n - c.sqDn.toInt
  { upTrig := toHalf (n + scale upRange (pct c.sqpEng))
    upRel := toHalf (n + scale upRange c.seqRelease)
    dnTrig := toHalf (n - scale dnRange (pct c.sqpEng))
    dnRel := toHalf (n - scale dnRange c.seqRelease) }

/-- SSETCAL (R201). -/
def execSsetcal (s : State) : Host.Outcome State Fault Refusal := .next (s.setSc s.cal.seqCal)

/-- Whether `SSTEP` samples `seqmode_in` (R203). -/
def State.seqSampled (s : State) : Bool := s.seqEn && s.isConnected

/-- The `mode` of `SSTEP` (R203). -/
def State.seqMode (s : State) : Bool := if s.seqSampled then s.seqModeIn else false

/-- After the mode was found (R203). -/
def State.afterSeqMode (s : State) : State := if s.seqSampled then s.takeSeqModeIn else s

/-- The tri-state of the next cycle in sequential mode (R203): up is tested before down; a release goes to neutral only. -/
def SeqCal.next (c : SeqCal) (old : BitVec 2) (y : Int) : BitVec 2 :=
  if old = 0 then
    if y ≥ c.upTrig.toInt then 1 else if y ≤ c.dnTrig.toInt then -1 else 0
  else if old = 1 then
    if y < c.upRel.toInt then 0 else 1
  else
    if y > c.dnRel.toInt then 0 else -1

/-- The forces of the gear to neutral in sequential mode: once, and on the first cycle once more (R203). -/
def State.seqForce (s : State) : State :=
  if s.seq.active then s.gearForce 0 else (s.gearForce 0).gearForce 0

/-- The tri-state after the cycle (R203). -/
def State.seqNext (s : State) : BitVec 2 := if s.seqMode then s.sc.next s.seq.state s.ax1.raw.toInt else 0

/-- What the cycle does to the gear decoder: in sequential mode the forces; out of it nothing (R203). -/
def State.seqGear (s : State) : State := if s.seqMode then s.afterSeqMode.seqForce else s.afterSeqMode

/-- The flags after the cycle: `CHG_GEAR` is cleared in sequential mode, `CHG_SEQ` written always (R203). -/
def State.seqFlags (s : State) : Flags :=
  (if s.seqMode then s.flags.withGear false else s.flags).withSeq (seqChanged s.seq.state.toInt s.seqNext.toInt)

/-- SSTEP (R203), as a change of state. -/
def sstep (s : State) : State :=
  ((s.seqGear.setSeq { state := s.seqNext, active := s.seqMode }).setFlags s.seqFlags).resBool s.seqFlags.chgSeq

/-- SSTEP (R203). -/
def execSstep (s : State) : Host.Outcome State Fault Refusal := .next (sstep s)

/-- SGET (R206). -/
def execSget (s : State) : Host.Outcome State Fault Refusal := .next (s.resInt s.seq.state.toInt)

end Sys2Proof.Machine
end

