-- ==== Sys2Proof/Machine/Srb.lean ====
section
/-! DEFINITION. The bus controller's commands (`45_srb.md`): BSERVICE, BSETLED, BGET, BCHG, BANY, BPRS, BREL, DPAD, and the
micro-operations BusDrive, BusRelease and ShiftIn. -/

namespace Sys2Proof.Machine

/-- The LED part of `BusDrive()` (R222): nothing when the line is the unused sentinel. -/
def State.driveLed (s : State) : State := if s.ledEn then (s.writeLed s.srb.ledCmd).enableLed true else s

/-- `srb.driven <- v` -/
def State.setDriven (s : State) (v : Bool) : State := s.setSrb { s.srb with driven := v }

/-- `BusDrive()` (R222): values are written before the lines are enabled. -/
def State.busDrive (s : State) : State :=
  ((((s.writeLatch true).writeClock false).enableBus true).driveLed).setDriven true

/-- `BusRelease()` (R223). -/
def State.busRelease (s : State) : State := ((s.enableBus false).enableLed false).setDriven false

/-- One iteration of `ShiftIn` (R224): clock low, sample, clock high, hold. -/
def State.shiftBit (s : State) : State := (((s.writeClock false).takeSrData).writeClock true).hold

/-- The iterations of `ShiftIn` that store into bits `k − 1` down to 0 (R224): with `i` from `16 − k` to 15, bit `15 − i`. -/
def shiftLoop : Nat → Half → State → Half × State
  | 0, w, s => (w, s)
  | k + 1, w, s => shiftLoop k (writeBit w k (s.writeClock false).srData) s.shiftBit

/-- The latch pulse of `ShiftIn()`: low, then high, a hold after each (R224). -/
def State.latchPulse (s : State) : State := (((s.writeLatch false).hold).writeLatch true).hold

/-- The word `ShiftIn()` returns (R224). -/
def State.shiftWord (s : State) : Half := (shiftLoop 16 0 s.latchPulse).1

/-- The state after `ShiftIn()`: the clock is left idle-low (R224). -/
def State.shiftIn (s : State) : State := (shiftLoop 16 0 s.latchPulse).2.writeClock false

/-- Whether `BSERVICE` takes the connected path (R221). -/
def State.busOn (s : State) : Bool := s.srbEn && s.isConnected

/-- The lines made ready for the path taken: driven if not yet, or released if driven (R221). -/
def State.busReady (s : State) : State :=
  if s.busOn then (if s.srb.driven then s else s.busDrive)
  else (if s.srb.driven then s.busRelease else s)

/-- The word of this service: shifted in, or all zeros (R221). -/
def State.serviceWord (s : State) : Half := if s.busOn then s.busReady.shiftWord else 0

/-- The state after the bus activity of this service, the cache not yet shifted (R221). -/
def State.serviceLines (s : State) : State := if s.busOn then s.busReady.shiftIn else s.busReady

/-- BSERVICE (R221), as a change of state. -/
def bservice (s : State) : State :=
  ((s.serviceLines.setSrb { s.serviceLines.srb with prev := s.srb.cur, cur := s.serviceWord }).setFlags
    (s.flags.withBtn (buttonsChanged s.serviceWord s.srb.cur))).resBool
      (buttonsChanged s.serviceWord s.srb.cur)

/-- BSERVICE (R221). -/
def execBservice (s : State) : Host.Outcome State Fault Refusal := .next (bservice s)

/-- BSETLED (R226). -/
def execBsetled (s : State) : Host.Outcome State Fault Refusal :=
  .next
    (if s.srb.driven ∧ s.ledEn then (s.setSrb { s.srb with ledCmd := s.argLed }).writeLed s.argLed
     else s.setSrb { s.srb with ledCmd := s.argLed })

/-- BGET (R228). -/
def execBget (n : Nat) (s : State) : Host.Outcome State Fault Refusal := .next (s.resBool (button s.srb.cur n))

/-- BCHG (R229). -/
def execBchg (n : Nat) (s : State) : Host.Outcome State Fault Refusal :=
  .next (s.resBool (button s.srb.cur n ^^ button s.srb.prev n))

/-- BANY (R230). -/
def execBany (s : State) : Host.Outcome State Fault Refusal :=
  .next (s.resBool (decide (s.srb.cur ≠ s.srb.prev)))

/-- BPRS (R231). -/
def execBprs (n : Nat) (s : State) : Host.Outcome State Fault Refusal :=
  .next (s.resBool (button s.srb.cur n && !button s.srb.prev n))

/-- BREL (R232). -/
def execBrel (n : Nat) (s : State) : Host.Outcome State Fault Refusal :=
  .next (s.resBool (button s.srb.prev n && !button s.srb.cur n))

/-- The field `f` of the D-pad: bit 0 up, bit 1 right, bit 2 down, bit 3 left (R233, R234). -/
def State.dpadField (s : State) : BitVec 4 :=
  BitVec.ofBool (button s.srb.cur s.leftButton) ++ BitVec.ofBool (button s.srb.cur s.downButton)
    ++ BitVec.ofBool (button s.srb.cur s.rightButton) ++ BitVec.ofBool (button s.srb.cur s.upButton)

/-- The table of R233: the direction index, clockwise from up; none is the sentinel. -/
def dpadTable : List (Option Nat) :=
  [none, some 0, some 2, some 1, some 4, none, some 3, some 2,
   some 6, some 7, none, some 0, some 5, some 6, some 4, none]

/-- The table at a field (R233). -/
def dpadIndex (f : BitVec 4) : Option Nat := dpadTable.getD f.toNat none

/-- The angle of a direction index: −1 for the sentinel, else 45 degrees a step (R234). -/
def dpadAngle : Option Nat → Int
  | none => -1
  | some idx => 45 * idx

/-- DPAD (R234). -/
def execDpad (s : State) : Host.Outcome State Fault Refusal := .next (s.resInt (dpadAngle (dpadIndex s.dpadField)))

end Sys2Proof.Machine
end

