-- ==== Sys2Proof/Machine/Top.lean ====
section
/-! DEFINITION. The top-level commands (`46_top.md`): NOP, UPDATE. -/

namespace Sys2Proof.Machine

/-- NOP (R260). -/
def execNop (s : State) : Host.Outcome State Fault Refusal := .next s

/-- The four calls of `UPDATE`, each on the state the previous one left (R262). -/
def updateCalls (s : State) : State := sstep (gupdate (bservice (cpoll s)))

/-- UPDATE (R262). -/
def execUpdate (s : State) : Host.Outcome State Fault Refusal :=
  .next
    (((updateCalls s).setFlags ((updateCalls s).flags.withChg (anyChanged (updateCalls s).flags))).resBool
      (anyChanged (updateCalls s).flags))

end Sys2Proof.Machine
end

