-- ==== Sys2Proof/Machine/Dispatch.lean ====
section
/-! DEFINITION. The meaning of each command: one arm per constructor of Instr, one direct call each. -/

namespace Sys2Proof.Machine

def exec (i : Instr) (s : State) : Host.Outcome State Fault Refusal :=
  match i with
  | .nop => Sys2Proof.Machine.execNop s
  | .update => Sys2Proof.Machine.execUpdate s
  | .cpoll => Sys2Proof.Machine.execCpoll s
  | .csetsp => Sys2Proof.Machine.execCsetsp s
  | .cisconn => Sys2Proof.Machine.execCisconn s
  | .aread a => Sys2Proof.Machine.execAread a s
  | .agetpos a => Sys2Proof.Machine.execAgetpos a s
  | .asetpos a => Sys2Proof.Machine.execAsetpos a s
  | .asetinv a => Sys2Proof.Machine.execAsetinv a s
  | .asetcal a => Sys2Proof.Machine.execAsetcal a s
  | .aisinv a => Sys2Proof.Machine.execAisinv a s
  | .gsetcal => Sys2Proof.Machine.execGsetcal s
  | .gupdate => Sys2Proof.Machine.execGupdate s
  | .gget => Sys2Proof.Machine.execGget s
  | .ssetcal => Sys2Proof.Machine.execSsetcal s
  | .sstep => Sys2Proof.Machine.execSstep s
  | .sget => Sys2Proof.Machine.execSget s
  | .bservice => Sys2Proof.Machine.execBservice s
  | .bsetled => Sys2Proof.Machine.execBsetled s
  | .bget n => Sys2Proof.Machine.execBget n s
  | .bchg n => Sys2Proof.Machine.execBchg n s
  | .bany => Sys2Proof.Machine.execBany s
  | .bprs n => Sys2Proof.Machine.execBprs n s
  | .brel n => Sys2Proof.Machine.execBrel n s
  | .dpad => Sys2Proof.Machine.execDpad s

end Sys2Proof.Machine
end

