-- ==== Sys2Proof/Machine/RegMap.lean ====
section
/-! DEFINITION. The register space (`10_state.md` R27, `20_memory.md` R72 to R74): the names of the mapped registers, their
addresses, and the host's read and write of a word. -/

namespace Sys2Proof.Machine

/-- The mapped registers, in the order of R27. -/
inductive Reg where
  | cmd | status | flags | cfg | arg0 | arg1 | res
  | stable | lastchg | dpadmap | btn | gearcur | gearprv | seqst
  | ax0raw | ax0min | ax0max | ax1raw | ax1min | ax1max
  | gs0 | gs1 | gs2 | gs3 | gs4 | gs5 | gs6
  | gpeng | gprel | gpedge
  | sqneu | squp | sqdn | sqpeng | sqprel
  | gcneutx | gcneuty | gcoddtrg | gcoddrel | gcevntrg | gcevnrel | gcleft | gcright | gcnrawx | gcnrawy
  | scuptrg | scuprel | scdntrg | scdnrel
deriving DecidableEq, Repr

/-- The register at a word address; none where the address is reserved (R27). -/
def Reg.at (a : RegAddr) : Option Reg :=
  match a.toNat with
  | 0x00 => some .cmd
  | 0x01 => some .status
  | 0x02 => some .flags
  | 0x03 => some .cfg
  | 0x04 => some .arg0
  | 0x05 => some .arg1
  | 0x06 => some .res
  | 0x08 => some .stable
  | 0x09 => some .lastchg
  | 0x0A => some .dpadmap
  | 0x0B => some .btn
  | 0x0C => some .gearcur
  | 0x0D => some .gearprv
  | 0x0E => some .seqst
  | 0x10 => some .ax0raw
  | 0x11 => some .ax0min
  | 0x12 => some .ax0max
  | 0x14 => some .ax1raw
  | 0x15 => some .ax1min
  | 0x16 => some .ax1max
  | 0x20 => some .gs0
  | 0x21 => some .gs1
  | 0x22 => some .gs2
  | 0x23 => some .gs3
  | 0x24 => some .gs4
  | 0x25 => some .gs5
  | 0x26 => some .gs6
  | 0x28 => some .gpeng
  | 0x29 => some .gprel
  | 0x2A => some .gpedge
  | 0x2C => some .sqneu
  | 0x2D => some .squp
  | 0x2E => some .sqdn
  | 0x2F => some .sqpeng
  | 0x30 => some .sqprel
  | 0x38 => some .gcneutx
  | 0x39 => some .gcneuty
  | 0x3A => some .gcoddtrg
  | 0x3B => some .gcoddrel
  | 0x3C => some .gcevntrg
  | 0x3D => some .gcevnrel
  | 0x3E => some .gcleft
  | 0x3F => some .gcright
  | 0x40 => some .gcnrawx
  | 0x41 => some .gcnrawy
  | 0x42 => some .scuptrg
  | 0x43 => some .scuprel
  | 0x44 => some .scdntrg
  | 0x45 => some .scdnrel
  | _ => none

/-- The address of a register (R27), the inverse of `Reg.at`. -/
def Reg.addr : Reg → RegAddr
  | .cmd => 0x00
  | .status => 0x01
  | .flags => 0x02
  | .cfg => 0x03
  | .arg0 => 0x04
  | .arg1 => 0x05
  | .res => 0x06
  | .stable => 0x08
  | .lastchg => 0x09
  | .dpadmap => 0x0A
  | .btn => 0x0B
  | .gearcur => 0x0C
  | .gearprv => 0x0D
  | .seqst => 0x0E
  | .ax0raw => 0x10
  | .ax0min => 0x11
  | .ax0max => 0x12
  | .ax1raw => 0x14
  | .ax1min => 0x15
  | .ax1max => 0x16
  | .gs0 => 0x20
  | .gs1 => 0x21
  | .gs2 => 0x22
  | .gs3 => 0x23
  | .gs4 => 0x24
  | .gs5 => 0x25
  | .gs6 => 0x26
  | .gpeng => 0x28
  | .gprel => 0x29
  | .gpedge => 0x2A
  | .sqneu => 0x2C
  | .squp => 0x2D
  | .sqdn => 0x2E
  | .sqpeng => 0x2F
  | .sqprel => 0x30
  | .gcneutx => 0x38
  | .gcneuty => 0x39
  | .gcoddtrg => 0x3A
  | .gcoddrel => 0x3B
  | .gcevntrg => 0x3C
  | .gcevnrel => 0x3D
  | .gcleft => 0x3E
  | .gcright => 0x3F
  | .gcnrawx => 0x40
  | .gcnrawy => 0x41
  | .scuptrg => 0x42
  | .scuprel => 0x43
  | .scdntrg => 0x44
  | .scdnrel => 0x45

/-- The encoding of ConnectionState (R31): Disconnected 0, PlugIn 1, Connected 2, Unplug 3. -/
def ConnState.code : ConnState → BitVec 2
  | .disconnected => 0
  | .plugIn => 1
  | .connected => 2
  | .unplug => 3

/-- `STATUS` (R25): `STATE` in bits 1:0, then `LEVEL`, `CONNECTED`, `DRIVEN`, `LEDCMD`, `SEQACT`, `REVSNAP`; bits 31 to 8
read 0. -/
def State.statusWord (s : State) : Word :=
  (BitVec.ofBool s.gear.rev ++ BitVec.ofBool s.seq.active ++ BitVec.ofBool s.srb.ledCmd ++ BitVec.ofBool s.srb.driven
    ++ BitVec.ofBool s.isConnected ++ BitVec.ofBool s.conn.level ++ s.conn.state.code).setWidth 32

/-- The 32-bit value of a register in its format (R27): s16 registers read sign-extended, `CMD` reads 0 (R22). -/
def State.readReg (s : State) : Reg → Word
  | .cmd => 0
  | .status => s.statusWord
  | .flags => s.flags.word
  | .cfg => s.cfg.setWidth 32
  | .arg0 => s.arg0
  | .arg1 => s.arg1
  | .res => s.res
  | .stable => s.conn.stable
  | .lastchg => s.conn.lastChange
  | .dpadmap => s.dpadMap.setWidth 32
  | .btn => s.srb.prev ++ s.srb.cur
  | .gearcur => s.gear.cur.signExtend 32
  | .gearprv => s.gear.prev.signExtend 32
  | .seqst => s.seq.state.signExtend 32
  | .ax0raw => sextHalf s.ax0.raw
  | .ax0min => sextHalf s.ax0.min
  | .ax0max => sextHalf s.ax0.max
  | .ax1raw => sextHalf s.ax1.raw
  | .ax1min => sextHalf s.ax1.min
  | .ax1max => sextHalf s.ax1.max
  | .gs0 => s.cal.gs0
  | .gs1 => s.cal.gs1
  | .gs2 => s.cal.gs2
  | .gs3 => s.cal.gs3
  | .gs4 => s.cal.gs4
  | .gs5 => s.cal.gs5
  | .gs6 => s.cal.gs6
  | .gpeng => sextHalf s.cal.gpEng
  | .gprel => sextHalf s.cal.gpRel
  | .gpedge => sextHalf s.cal.gpEdge
  | .sqneu => sextHalf s.cal.sqNeu
  | .squp => sextHalf s.cal.sqUp
  | .sqdn => sextHalf s.cal.sqDn
  | .sqpeng => sextHalf s.cal.sqpEng
  | .sqprel => sextHalf s.cal.sqpRel
  | .gcneutx => sextHalf s.gc.neutX
  | .gcneuty => sextHalf s.gc.neutY
  | .gcoddtrg => sextHalf s.gc.oddTrig
  | .gcoddrel => sextHalf s.gc.oddRel
  | .gcevntrg => sextHalf s.gc.evenTrig
  | .gcevnrel => sextHalf s.gc.evenRel
  | .gcleft => sextHalf s.gc.left
  | .gcright => sextHalf s.gc.right
  | .gcnrawx => sextHalf s.gc.nrawX
  | .gcnrawy => sextHalf s.gc.nrawY
  | .scuptrg => sextHalf s.sc.upTrig
  | .scuprel => sextHalf s.sc.upRel
  | .scdntrg => sextHalf s.sc.dnTrig
  | .scdnrel => sextHalf s.sc.dnRel

/-- A host write to a register in its format (R73): a read-only register ignores it (R74), and `CMD` stores nothing (R22;
its command is executed by `hostWrite` of HostBus.lean). -/
def State.writeReg (s : State) (r : Reg) (v : Word) : State :=
  match r with
  | .cfg => s.setCfg (v.extractLsb' 0 11)
  | .arg0 => s.setArg0 v
  | .arg1 => s.setArg1 v
  | .dpadmap => s.setDpadMap (lowHalf v)
  | .gs0 => s.setCal { s.cal with gs0 := v }
  | .gs1 => s.setCal { s.cal with gs1 := v }
  | .gs2 => s.setCal { s.cal with gs2 := v }
  | .gs3 => s.setCal { s.cal with gs3 := v }
  | .gs4 => s.setCal { s.cal with gs4 := v }
  | .gs5 => s.setCal { s.cal with gs5 := v }
  | .gs6 => s.setCal { s.cal with gs6 := v }
  | .gpeng => s.setCal { s.cal with gpEng := lowHalf v }
  | .gprel => s.setCal { s.cal with gpRel := lowHalf v }
  | .gpedge => s.setCal { s.cal with gpEdge := lowHalf v }
  | .sqneu => s.setCal { s.cal with sqNeu := lowHalf v }
  | .squp => s.setCal { s.cal with sqUp := lowHalf v }
  | .sqdn => s.setCal { s.cal with sqDn := lowHalf v }
  | .sqpeng => s.setCal { s.cal with sqpEng := lowHalf v }
  | .sqprel => s.setCal { s.cal with sqpRel := lowHalf v }
  | .cmd | .status | .flags | .res | .stable | .lastchg | .btn | .gearcur | .gearprv | .seqst
  | .ax0raw | .ax0min | .ax0max | .ax1raw | .ax1min | .ax1max
  | .gcneutx | .gcneuty | .gcoddtrg | .gcoddrel | .gcevntrg | .gcevnrel | .gcleft | .gcright | .gcnrawx | .gcnrawy
  | .scuptrg | .scuprel | .scdntrg | .scdnrel => s

/-- The word `MemRead(addr, 4)` returns (R72): a reserved address reads 0 (R74). -/
def State.readWord (s : State) (a : RegAddr) : Word :=
  match Reg.at a with
  | some r => s.readReg r
  | none => 0

/-- What `MemWrite(addr, 4, v)` stores (R73): nothing at a reserved address (R74). -/
def State.writeWord (s : State) (a : RegAddr) (v : Word) : State :=
  match Reg.at a with
  | some r => s.writeReg r v
  | none => s

end Sys2Proof.Machine
end

