-- ==== Sys2Proof/Machine/HostBus.lean ====
section
/-! DEFINITION. The host's moves (`20_memory.md` R71 to R74, `70_reset_and_hazards.md` R300): reads, writes, the execution
of a command by a write to `CMD`, and `rst_n`. One move is one step; with none pending the block does nothing (R15, R283). -/

namespace Sys2Proof.Machine

/-- `CMD` at word 0 (R27, R84). -/
def cmdAddr : RegAddr := 0x00

/-- The host's first pending move is made. -/
def State.popMove (s : State) : State := s.setEnv { s.env with moves := s.env.moves.tail }

/-- The command word of a write to `CMD`: `CW = w[15:0]`; `w[31:16]` is ignored (R22). -/
def commandWord (v : Word) : CmdWord := lowHalf v

/-- A command runs to completion (R22, R73). A reserved word does nothing (R105, log 4). -/
def runCommand (cw : CmdWord) (s : State) : Host.Outcome State Fault Refusal :=
  match decode cw with
  | .ok i => exec i s
  | .error _ => .next s

/-- `MemRead` (R72): the word is answered on `h_rdata`, and nothing else changes (R80, log 12). -/
def hostRead (a : RegAddr) (s : State) : State := s.setEnv { s.env with rdata := s.readWord a }

/-- `MemWrite` (R73): a write to `CMD` executes the command, any other stores the word. -/
def hostWrite (a : RegAddr) (v : Word) (s : State) : Host.Outcome State Fault Refusal :=
  if a = cmdAddr then runCommand (commandWord v) s else .next (s.writeWord a v)

/-- `rst_n` driven to a level (R300): while it is 0, and when it returns to 1, every element of the block holds its reset
value; the world around the block goes on (log 9). -/
def driveReset (level : Bool) (s : State) : State :=
  if level = true ∧ s.env.rstN = true then s
  else State.resetIn { s.env with rstN := level }

/-- One move of the host. A transfer while `rst_n` is 0 is not answered (R300): refused (U10, log 9). -/
def makeMove (m : HostMove) (s : State) : Host.Outcome State Fault Refusal :=
  match m with
  | .rst level => .next (driveReset level s)
  | .read a => if s.env.rstN then .next (hostRead a s) else .refused .transferDuringReset
  | .write a v => if s.env.rstN then hostWrite a v s else .refused .transferDuringReset

/-- The next pending move is taken and made; with none pending nothing happens (R15, R283). -/
def hostStep (s : State) : Host.Outcome State Fault Refusal :=
  match s.env.moves with
  | [] => .next s
  | m :: _ => makeMove m s.popMove

/-- A write of a command word to `CMD` becomes the host's next move, with `rst_n` at 1 so that it is answered. -/
def State.placeCommand (s : State) (cw : CmdWord) : State :=
  s.setEnv { s.env with moves := .write cmdAddr (cw.setWidth 32) :: s.env.moves, rstN := true }

end Sys2Proof.Machine
end

