-- ==== Sys2Proof/Machine/Step.lean ====
section
/-! DEFINITION. The machine's step, and how a command is placed where the next step takes it. -/

namespace Sys2Proof.Machine

/-- One step: the host's next move (log 1). -/
def step (s : State) : Host.Outcome State Fault Refusal := hostStep s

/-- The state whose next step runs the command numbered `w` in `nbits` bits as spec/opcode_table.json numbers it: a write
of that word to `CMD` is the host's next move (R22, log 1). -/
def State.withFetchWord (s : State) (nbits w : Nat) : State := s.placeCommand (tableWord nbits w)

end Sys2Proof.Machine
end

