-- ==== Sys2Proof/Safety.lean ====
section
/-! DEFINITION. The terms in which claims speak of runs: sequences of commands, the samples a feed will give, the pin events
of the bus protocol, and what holds after reset and after every command (`10_state.md` R43). -/

namespace Sys2Proof.Machine

/-- A sequence of commands, each on the state the previous one left (R81). -/
def runCommands : List Instr → State → Host.Outcome State Fault Refusal
  | [], s => .next s
  | i :: is, s =>
    match exec i s with
    | .next t => runCommands is t
    | .fault r => .fault r
    | .refused r => .refused r

/-- The sample a feed gives after `i` samples more: decided already, or the pin's free value (R76, log 2). -/
def Feed.nth {α : Type} (free : Nat → α) (f : Feed α) (i : Nat) : α :=
  match f.given.drop i with
  | v :: _ => v
  | [] => free (f.taken + i)

/-- A feed after `n` samples. -/
def Feed.after {α : Type} (f : Feed α) (n : Nat) : Feed α := ⟨f.given.drop n, f.taken + n⟩

/-- The 16 values that `sr_data` presents to the next `ShiftIn` (R224). -/
def State.busSamples (s : State) : List Bool := (List.range 16).map (s.env.srData.nth Config.freeSrData)

/-- The pin events of `BusDrive` (R222). -/
def driveEvents (ledEn ledCmd : Bool) : List PinEvent :=
  [.latch true, .clock false, .busEnable true] ++ (if ledEn then [.led ledCmd, .ledEnable true] else [])

/-- The pin events of `BusRelease` (R223). -/
def releaseEvents : List PinEvent := [.busEnable false, .ledEnable false]

/-- The pin events of `ShiftIn` (R224): "latch 0, latch 1, then sixteen times (clock 0, sample, clock 1), then clock 0". -/
def shiftEvents (bits : List Bool) : List PinEvent :=
  [.latch false, .latch true] ++ bits.flatMap (fun b => [.clock false, .sample b, .clock true]) ++ [.clock false]

/-- What holds after reset and after every command (R43), and what R36, R38, R222 to R224 and R300 add to it. -/
structure State.Coherent (s : State) : Prop where
  /-- R43 (a) -/
  level : s.conn.level = true ↔ s.conn.state = .plugIn ∨ s.conn.state = .connected
  /-- R43 (b) -/
  gearCur : -1 ≤ s.gear.cur.toInt ∧ s.gear.cur.toInt ≤ 6
  /-- R43 (b) -/
  gearPrev : -1 ≤ s.gear.prev.toInt ∧ s.gear.prev.toInt ≤ 6
  /-- R43 (c) -/
  seqState : -1 ≤ s.seq.state.toInt ∧ s.seq.state.toInt ≤ 1
  /-- out of sequential mode the tri-state is neutral (R203) -/
  seqIdle : s.seq.active = false → s.seq.state = 0
  /-- R43 (d) -/
  busOe : s.pin.busOe = s.srb.driven
  /-- the LED line is enabled only while the bus is driven (R38) -/
  ledOe : s.pin.ledOe = true → s.srb.driven = true
  /-- the clock line rests low (R222, R224) -/
  clockLow : s.pin.clockO = false
  /-- the latch line rests high while driven (R222, R224) -/
  latchHigh : s.srb.driven = true → s.pin.latchO = true
  /-- while `rst_n` is 0 every element holds its reset value (R300) -/
  held : s.env.rstN = false → s = State.resetIn s.env

end Sys2Proof.Machine
end

