-- ==== Sys2Proof/Certificates/Slice0/Obligations.lean ====
section
/-! DEFINITION. The statements for the provers. Each docstring names the rule of spec/ it formalises. A statement of an
instruction's result is an equation with the whole next state, so it is the instruction's completion and its frame too. -/

open Sys2Proof Sys2Proof.Machine

/-! ## The encoding -/

/-- Decode and encode agree on every well-formed command (30_encoding.md R100 to R104). -/
def Obligations.DecodeOfEncode : Prop :=
  ∀ i : Instr, i.wellFormed = true → decode (encode i) = .ok i

/-- Each word that decodes has one meaning, well formed, and is that command's word: no operand bit and no must-be-zero bit
is dropped (30_encoding.md R101, R102, R105). -/
def Obligations.DecodedWordIsItsEncoding : Prop :=
  ∀ (w : CmdWord) (i : Instr), decode w = .ok i → i.wellFormed = true ∧ encode i = w

/-- R101: "The rows are disjoint, so at most one matches." -/
def Obligations.OpcodeRowsAreDisjoint : Prop :=
  opTable.Pairwise (fun r r' => ∀ w : CmdWord, ¬ (r.fits w = true ∧ r'.fits w = true))

/-- Words of every family written out from the patterns of R104, and reserved words of R105, decode as they say. -/
def Obligations.DecodesWordsOfTheOpcodeMap : Prop :=
  decode 0b0000000000000000 = .ok .nop ∧ decode 0b0000000100000000 = .ok .update ∧
  decode 0b0001000000000000 = .ok .cpoll ∧ decode 0b0010000000000001 = .ok (.aread .y) ∧
  decode 0b0010010100000000 = .ok (.aisinv .x) ∧ decode 0b0011001000000000 = .ok .gget ∧
  decode 0b0100000100000000 = .ok .sstep ∧ decode 0b0101001000001111 = .ok (.bget 15) ∧
  decode 0b0101001100001010 = .ok (.bchg 10) ∧ decode 0b0101011100000000 = .ok .dpad ∧
  decode 0x2002 = .error (.reservedOperand 0x20 0x02) ∧ decode 0x5210 = .error (.reservedOperand 0x52 0x10) ∧
  decode 0x5800 = .error (.reservedOpcode 0x58)

/-! ## The host's moves and the step -/

/-- The step runs the command a write to `CMD` names: bits 15:0 of the word written, the upper half ignored (R22, R73). What
the step adds around exec is that the host's move is made. -/
def Obligations.StepRunsTheCommandWritten : Prop :=
  ∀ (s : State) (v : Word) (rest : List HostMove) (i : Instr),
    s.env.rstN = true → s.env.moves = .write 0x00 v :: rest → decode (v.setWidth 16) = .ok i → i.wellFormed = true →
    step s = exec i { s with env := { s.env with moves := rest } }

/-- A command placed by `withFetchWord` is the very next one the step runs, on the state it was placed in (log 1). -/
def Obligations.StepRunsThePlacedCommand : Prop :=
  ∀ (s : State) (w : Nat) (i : Instr),
    s.env.rstN = true → decodeTableWord 16 w = some i → step (s.withFetchWord 16 w) = exec i s

/-- R105: a reserved command does nothing; only the host's move is made. -/
def Obligations.ReservedCommandDoesNothing : Prop :=
  ∀ (s : State) (v : Word) (rest : List HostMove) (e : DecodeError),
    s.env.rstN = true → s.env.moves = .write 0x00 v :: rest → decode (v.setWidth 16) = .error e →
    step s = .next { s with env := { s.env with moves := rest } }

/-- A host read answers the register's word and changes nothing else, at any address (R72, R80; that the answer stands in
`env.rdata` is the model's choice, log 12). -/
def Obligations.HostReadHasNoSideEffect : Prop :=
  ∀ (s : State) (a : RegAddr) (rest : List HostMove),
    s.env.rstN = true → s.env.moves = .read a :: rest →
    step s = .next { s with env := { s.env with moves := rest, rdata := s.readWord a } }

/-- What each word address reads: the map of R27 with the views of R24 and R25, `CMD` and every reserved address 0. -/
def Obligations.RegisterMapReads : Prop :=
  ∀ s : State,
    (s.readWord 0x00 = 0) ∧
    ((s.readWord 0x01).toNat =
      (match s.conn.state with
        | .disconnected => 0
        | .plugIn => 1
        | .connected => 2
        | .unplug => 3)
        + 4 * s.conn.level.toNat + 8 * (decide (s.conn.state = .connected)).toNat + 16 * s.srb.driven.toNat
        + 32 * s.srb.ledCmd.toNat + 64 * s.seq.active.toNat + 128 * s.gear.rev.toNat) ∧
    ((s.readWord 0x02).toNat =
      s.flags.chg.toNat + 2 * s.flags.chgBtn.toNat + 4 * s.flags.chgGear.toNat + 8 * s.flags.chgSeq.toNat
        + 16 * s.flags.chgAx0.toNat + 32 * s.flags.chgAx1.toNat) ∧
    ((s.readWord 0x03).toNat = s.cfg.toNat) ∧
    (s.readWord 0x04 = s.arg0) ∧ (s.readWord 0x05 = s.arg1) ∧ (s.readWord 0x06 = s.res) ∧
    (s.readWord 0x08 = s.conn.stable) ∧ (s.readWord 0x09 = s.conn.lastChange) ∧
    ((s.readWord 0x0A).toNat = s.dpadMap.toNat) ∧
    ((s.readWord 0x0B).toNat = s.srb.cur.toNat + 65536 * s.srb.prev.toNat) ∧
    ((s.readWord 0x0C).toInt = s.gear.cur.toInt) ∧ ((s.readWord 0x0D).toInt = s.gear.prev.toInt) ∧
    ((s.readWord 0x0E).toInt = s.seq.state.toInt) ∧
    ((s.readWord 0x10).toInt = s.ax0.raw.toInt) ∧ ((s.readWord 0x11).toInt = s.ax0.min.toInt) ∧
    ((s.readWord 0x12).toInt = s.ax0.max.toInt) ∧
    ((s.readWord 0x14).toInt = s.ax1.raw.toInt) ∧ ((s.readWord 0x15).toInt = s.ax1.min.toInt) ∧
    ((s.readWord 0x16).toInt = s.ax1.max.toInt) ∧
    (s.readWord 0x20 = s.cal.gs0) ∧ (s.readWord 0x21 = s.cal.gs1) ∧ (s.readWord 0x22 = s.cal.gs2) ∧
    (s.readWord 0x23 = s.cal.gs3) ∧ (s.readWord 0x24 = s.cal.gs4) ∧ (s.readWord 0x25 = s.cal.gs5) ∧
    (s.readWord 0x26 = s.cal.gs6) ∧
    ((s.readWord 0x28).toInt = s.cal.gpEng.toInt) ∧ ((s.readWord 0x29).toInt = s.cal.gpRel.toInt) ∧
    ((s.readWord 0x2A).toInt = s.cal.gpEdge.toInt) ∧
    ((s.readWord 0x2C).toInt = s.cal.sqNeu.toInt) ∧ ((s.readWord 0x2D).toInt = s.cal.sqUp.toInt) ∧
    ((s.readWord 0x2E).toInt = s.cal.sqDn.toInt) ∧ ((s.readWord 0x2F).toInt = s.cal.sqpEng.toInt) ∧
    ((s.readWord 0x30).toInt = s.cal.sqpRel.toInt) ∧
    ((s.readWord 0x38).toInt = s.gc.neutX.toInt) ∧ ((s.readWord 0x39).toInt = s.gc.neutY.toInt) ∧
    ((s.readWord 0x3A).toInt = s.gc.oddTrig.toInt) ∧ ((s.readWord 0x3B).toInt = s.gc.oddRel.toInt) ∧
    ((s.readWord 0x3C).toInt = s.gc.evenTrig.toInt) ∧ ((s.readWord 0x3D).toInt = s.gc.evenRel.toInt) ∧
    ((s.readWord 0x3E).toInt = s.gc.left.toInt) ∧ ((s.readWord 0x3F).toInt = s.gc.right.toInt) ∧
    ((s.readWord 0x40).toInt = s.gc.nrawX.toInt) ∧ ((s.readWord 0x41).toInt = s.gc.nrawY.toInt) ∧
    ((s.readWord 0x42).toInt = s.sc.upTrig.toInt) ∧ ((s.readWord 0x43).toInt = s.sc.upRel.toInt) ∧
    ((s.readWord 0x44).toInt = s.sc.dnTrig.toInt) ∧ ((s.readWord 0x45).toInt = s.sc.dnRel.toInt) ∧
    (∀ a : RegAddr,
      (a = 0x07 ∨ a = 0x0F ∨ a = 0x13 ∨ (0x17 ≤ a ∧ a ≤ 0x1F) ∨ a = 0x27 ∨ a = 0x2B ∨ (0x31 ≤ a ∧ a ≤ 0x37) ∨ 0x46 ≤ a) →
      s.readWord a = 0)

/-- A host write stores the word in the register's format, and every other word reads as before; a read-only or reserved
address ignores the write; no pin moves (R73, R74, R27). -/
def Obligations.HostWriteStoresInItsFormat : Prop :=
  ∀ (s : State) (a : RegAddr) (v : Word) (rest : List HostMove),
    s.env.rstN = true → s.env.moves = .write a v :: rest → a ≠ 0x00 →
    ∃ t, step s = .next t ∧
      (a = 0x04 ∨ a = 0x05 ∨ (0x20 ≤ a ∧ a ≤ 0x26) → t.readWord a = v) ∧
      (a = 0x03 → t.readWord a = v &&& 0x7FF) ∧
      (a = 0x0A → t.readWord a = v &&& 0xFFFF) ∧
      ((0x28 ≤ a ∧ a ≤ 0x2A) ∨ (0x2C ≤ a ∧ a ≤ 0x30) → (t.readWord a).toInt = (v.setWidth 16).toInt) ∧
      (¬ (a = 0x03 ∨ a = 0x04 ∨ a = 0x05 ∨ a = 0x0A ∨ (0x20 ≤ a ∧ a ≤ 0x26) ∨ (0x28 ≤ a ∧ a ≤ 0x2A) ∨
          (0x2C ≤ a ∧ a ≤ 0x30)) → t = { s with env := { s.env with moves := rest } }) ∧
      (∀ b : RegAddr, b ≠ a → t.readWord b = s.readWord b) ∧
      t.pin = s.pin ∧ t.env = { s.env with moves := rest }

/-- Between commands nothing happens: with no host move pending a step changes nothing (R15, R283; that pending moves are
held in the state is the model's choice, log 1). -/
def Obligations.NothingHappensBetweenCommands : Prop :=
  ∀ s : State, s.env.moves = [] → step s = .next s

/-- Driving `rst_n` to 0, or from 0 back to 1, leaves every element that R42 gives a value at that value, the three lines
high impedance, and the world around the block as it was but for the move and the level (R300; log 9). -/
def Obligations.ResetDriveGivesTheResetValues : Prop :=
  ∀ (s : State) (l : Bool) (rest : List HostMove),
    s.env.moves = .rst l :: rest → (l = false ∨ s.env.rstN = false) →
    ∃ t, step s = .next t ∧ t.env = { s.env with moves := rest, rstN := l } ∧
      t.arg0 = 0 ∧ t.arg1 = 0 ∧ t.res = 0 ∧ t.cfg = 0x6FD ∧ t.flags.word = 0 ∧
      t.conn = { state := .connected, level := true, lastChange := 0, stable := 250 } ∧
      t.ax0 = { raw := 0, min := 0, max := 1023 } ∧ t.ax1 = { raw := 0, min := 0, max := 1023 } ∧
      t.gear = { cur := 0, prev := 0, rev := false } ∧
      t.cal.gpEng = 70 ∧ t.cal.gpRel = 50 ∧ t.cal.gpEdge = 60 ∧ t.cal.sqpEng = 70 ∧ t.cal.sqpRel = 50 ∧
      t.seq = { state := 0, active := false } ∧
      t.srb = { cur := 0, prev := 0, ledCmd := false, driven := false } ∧
      t.pin = { latchO := false, clockO := false, ledO := false, ledOe := false, busOe := false } ∧
      t.dpadMap = 0x3210 ∧
      t.wireLatch = none ∧ t.wireClock = none ∧ t.wireLed = none

/-- A step stops only by refusing a host transfer while `rst_n` is 0, and then always (R300 "A host transfer while `rst_n`
is 0 is not answered"; that the model refuses it is U10, log 9). -/
def Obligations.OnlyTransfersDuringResetAreRefused : Prop :=
  ∀ s : State,
    ((∃ r, step s = .refused r) ↔
      s.env.rstN = false ∧ ∃ m rest, s.env.moves = m :: rest ∧ ∀ l, m ≠ .rst l) ∧
    (∀ r, step s = .refused r → r = .transferDuringReset) ∧
    (∀ r, step s ≠ .fault r)

/-- What the host reads after reset (95_test_vectors.md section 2.2; R25 gives the value of `STATUS`). -/
def Obligations.RegistersAfterReset : Prop :=
  State.reset.readWord 0x00 = 0 ∧ State.reset.readWord 0x01 = 0x0000000E ∧ State.reset.readWord 0x02 = 0 ∧
  State.reset.readWord 0x03 = 0x000006FD ∧ State.reset.readWord 0x06 = 0 ∧ State.reset.readWord 0x08 = 250 ∧
  State.reset.readWord 0x0A = 0x00003210 ∧ State.reset.readWord 0x0B = 0 ∧ State.reset.readWord 0x12 = 1023 ∧
  State.reset.readWord 0x16 = 1023 ∧ State.reset.readWord 0x28 = 70 ∧ State.reset.readWord 0x29 = 50 ∧
  State.reset.readWord 0x2A = 60 ∧ State.reset.readWord 0x2F = 70 ∧ State.reset.readWord 0x30 = 50

/-! ## What every command keeps -/

/-- R43 and its companions are kept by every step of the machine (R36, R38, R43, R222 to R224, R300). -/
def Obligations.StepKeepsCoherence : Prop :=
  ∀ s t : State, s.Coherent → step s = .next t → t.Coherent

/-- R43: the invariants hold after reset. -/
def Obligations.ResetIsCoherent : Prop := State.reset.Coherent

/-- R280: every command completes, for every value of its operands, of the state and of the inputs, and no step faults. -/
def Obligations.EveryCommandCompletes : Prop :=
  (∀ (i : Instr) (s : State), ∃ t, exec i s = .next t) ∧ ∀ (s : State) (r : Fault), step s ≠ .fault r

/-- Which commands write what: every element is written only by the commands whose rules write it (R21, R24, R34, R35, R37,
R39, R103, R104, R288, and the rule of each command). -/
def Obligations.OnlyItsCommandsWriteAnElement : Prop :=
  ∀ (i : Instr) (s t : State), exec i s = .next t →
    (t.arg0 = s.arg0 ∧ t.arg1 = s.arg1 ∧ t.cfg = s.cfg ∧ t.cal = s.cal ∧ t.dpadMap = s.dpadMap) ∧
    (i = .nop ∨ i = .cpoll ∨ i = .csetsp ∨ i = .gsetcal ∨ i = .ssetcal ∨ i = .bsetled ∨
      (∃ a, i = .asetpos a ∨ i = .asetinv a ∨ i = .asetcal a) → t.res = s.res) ∧
    (i ≠ .update → t.flags.chg = s.flags.chg) ∧
    (i ≠ .update → i ≠ .bservice →
      t.flags.chgBtn = s.flags.chgBtn ∧ t.srb.cur = s.srb.cur ∧ t.srb.prev = s.srb.prev ∧ t.srb.driven = s.srb.driven ∧
      t.pin.latchO = s.pin.latchO ∧ t.pin.clockO = s.pin.clockO ∧ t.pin.busOe = s.pin.busOe ∧ t.pin.ledOe = s.pin.ledOe) ∧
    (i ≠ .update → i ≠ .bservice → i ≠ .bsetled → t.pin = s.pin) ∧
    (i ≠ .bsetled → t.srb.ledCmd = s.srb.ledCmd) ∧
    (i ≠ .update → i ≠ .gupdate → i ≠ .sstep → t.gear = s.gear ∧ t.flags.chgGear = s.flags.chgGear) ∧
    (i ≠ .update → i ≠ .gupdate → t.gear.rev = s.gear.rev) ∧
    (i ≠ .update → i ≠ .sstep → t.seq = s.seq ∧ t.flags.chgSeq = s.flags.chgSeq) ∧
    (i ≠ .update → i ≠ .gupdate → i ≠ .aread .x → t.flags.chgAx0 = s.flags.chgAx0) ∧
    (i ≠ .update → i ≠ .gupdate → i ≠ .aread .y → t.flags.chgAx1 = s.flags.chgAx1) ∧
    (i ≠ .update → i ≠ .gupdate → i ≠ .aread .x → i ≠ .asetpos .x → t.ax0.raw = s.ax0.raw) ∧
    (i ≠ .update → i ≠ .gupdate → i ≠ .aread .y → i ≠ .asetpos .y → t.ax1.raw = s.ax1.raw) ∧
    (i ≠ .gsetcal → i ≠ .asetinv .x → i ≠ .asetcal .x → t.ax0.min = s.ax0.min ∧ t.ax0.max = s.ax0.max) ∧
    (i ≠ .gsetcal → i ≠ .asetinv .y → i ≠ .asetcal .y → t.ax1.min = s.ax1.min ∧ t.ax1.max = s.ax1.max) ∧
    (i ≠ .gsetcal → t.gc = s.gc) ∧
    (i ≠ .ssetcal → t.sc = s.sc) ∧
    (i ≠ .csetsp → t.conn.stable = s.conn.stable) ∧
    (i ≠ .update → i ≠ .cpoll → t.conn.state = s.conn.state ∧ t.conn.level = s.conn.level) ∧
    (i ≠ .update → i ≠ .cpoll → i ≠ .csetsp → t.conn.lastChange = s.conn.lastChange)

/-- A command leaves the host's moves, `rst_n` and the last answer alone, and only adds pin events after those before it;
only the three commands that touch the lines add any (R77, R80, R81; the fields are the model's, log 1, 9, 11, 12). -/
def Obligations.CommandsOnlyAddPinEvents : Prop :=
  ∀ (i : Instr) (s t : State), exec i s = .next t →
    t.env.moves = s.env.moves ∧ t.env.rstN = s.env.rstN ∧ t.env.rdata = s.env.rdata ∧
    ∃ ev, t.env.events = s.env.events ++ ev ∧ (i ≠ .update → i ≠ .bservice → i ≠ .bsetled → ev = [])

/-- A port that `CFG` says is unused has no effect on any command: with another sequence of samples at that pin the command
gives the same next state, and takes none of them (R41, R76). -/
def Obligations.UnusedPinsAreNeverRead : Prop :=
  ∀ (i : Instr) (s t : State), exec i s = .next t →
    (s.cfg[0] = false → ∀ f, exec i { s with env := { s.env with detIn := f } } =
      .next { t with env := { t.env with detIn := f } }) ∧
    (s.cfg[2] = false → ∀ f, exec i { s with env := { s.env with revIn := f } } =
      .next { t with env := { t.env with revIn := f } }) ∧
    (s.cfg[3] = false → ∀ f, exec i { s with env := { s.env with seqModeIn := f } } =
      .next { t with env := { t.env with seqModeIn := f } }) ∧
    (s.cfg[4] = false → ∀ f, exec i { s with env := { s.env with srData := f } } =
      .next { t with env := { t.env with srData := f } }) ∧
    (s.cfg[6] = false → ∀ f, exec i { s with env := { s.env with ain0 := f } } =
      .next { t with env := { t.env with ain0 := f } }) ∧
    (s.cfg[7] = false → ∀ f, exec i { s with env := { s.env with ain1 := f } } =
      .next { t with env := { t.env with ain1 := f } })

/-! ## Connection monitor -/

/-- CPOLL: the five branches and the cases where nothing changes (R121, R122). `s.detIn` and `s.nowMs` are the samples the
environment gives, `takeDetIn` and `takeNowMs` the state after they are taken. -/
def Obligations.CpollTakesItsBranches : Prop :=
  decode 0x1000 = .ok .cpoll ∧
  ∀ s : State,
    let lvl := if s.cfg[0] then s.detIn ^^ s.cfg[1] else true
    let s0 := if s.cfg[0] then s.takeDetIn else s
    let now := s.nowMs
    let s1 := s0.takeNowMs
    (lvl = true ∧ s.conn.state = .connected → exec .cpoll s = .next s0) ∧
    (¬ (lvl = true ∧ s.conn.state = .connected) →
      (lvl ≠ s.conn.level → lvl = true →
        exec .cpoll s = .next { s1 with conn := { s.conn with state := .plugIn, level := true, lastChange := now } }) ∧
      (lvl ≠ s.conn.level → lvl = false →
        exec .cpoll s = .next { s1 with conn := { s.conn with state := .unplug, level := false, lastChange := now } }) ∧
      (lvl = s.conn.level → lvl = true → s.conn.stable ≤ now - s.conn.lastChange →
        exec .cpoll s = .next { s1 with conn := { s.conn with state := .connected } }) ∧
      (lvl = s.conn.level → lvl = true → now - s.conn.lastChange < s.conn.stable → exec .cpoll s = .next s1) ∧
      (lvl = s.conn.level → lvl = false → s.conn.state = .unplug →
        exec .cpoll s = .next { s1 with conn := { s.conn with state := .disconnected } }) ∧
      (lvl = s.conn.level → lvl = false → s.conn.state ≠ .unplug → exec .cpoll s = .next s1))

/-- CSETSP: the period is stored; in state Connected the change time is shifted just so far that the elapsed time meets it,
and only in that state is `now_ms` sampled (R125). -/
def Obligations.CsetspKeepsTheConnection : Prop :=
  decode 0x1100 = .ok .csetsp ∧
  ∀ s : State,
    (s.conn.state ≠ .connected → exec .csetsp s = .next { s with conn := { s.conn with stable := s.arg0 } }) ∧
    (s.conn.state = .connected →
      (s.nowMs - s.conn.lastChange < s.arg0 →
        exec .csetsp s = .next
          { s.takeNowMs with conn := { s.conn with stable := s.arg0, lastChange := s.nowMs - s.arg0 } }) ∧
      (s.arg0 ≤ s.nowMs - s.conn.lastChange →
        exec .csetsp s = .next { s.takeNowMs with conn := { s.conn with stable := s.arg0 } }) ∧
      ∃ t, exec .csetsp s = .next t ∧ t.conn.state = .connected ∧ t.conn.stable ≤ s.nowMs - t.conn.lastChange)

/-- CISCONN; the same value is bit 3 of `STATUS` (R126). -/
def Obligations.CisconnTellsConnected : Prop :=
  decode 0x1200 = .ok .cisconn ∧
  ∀ s : State,
    exec .cisconn s = .next { s with res := if s.conn.state = .connected then 1 else 0 } ∧
    (s.readWord 0x01)[3] = decide (s.conn.state = .connected)

/-- The debounce property of R127, over any number of polls: from the rise (state PlugIn, recorded at the clock's present
count), if every poll reads active and less than 2^32 ms pass, then after `n` polls the state is Connected exactly when a
poll was made and the stable period has passed, and PlugIn otherwise. That the clock is a count with elapsed times, which obey
R310, is the model's choice, log 3. -/
def Obligations.DebounceWaitsForTheStablePeriod : Prop :=
  ∀ (n : Nat) (s : State),
    s.conn.state = .plugIn → s.conn.level = true → s.conn.lastChange = BitVec.ofNat 32 s.env.clock →
    (s.cfg[0] = true → ∀ i, i < n → (s.env.detIn.nth Config.freeDetIn i ^^ s.cfg[1]) = true) →
    ((List.range n).map (s.env.elapsed.nth Config.freeElapsed)).sum < 2 ^ 32 →
    ∃ t, runCommands (List.replicate n .cpoll) s = .next t ∧
      (t.conn.state = .connected ↔
        0 < n ∧ s.conn.stable.toNat ≤ ((List.range n).map (s.env.elapsed.nth Config.freeElapsed)).sum) ∧
      (t.conn.state = .connected ∨ t.conn.state = .plugIn) ∧
      t.conn.level = true ∧ t.conn.lastChange = s.conn.lastChange ∧ t.conn.stable = s.conn.stable

/-- The other half of R127: Connected stays as long as every poll reads active, however many there are, and the first poll
that reads inactive makes it Unplug. -/
def Obligations.ConnectedUntilReadInactive : Prop :=
  ∀ (n : Nat) (s : State),
    s.conn.state = .connected → s.conn.level = true →
    (s.cfg[0] = true → ∀ i, i < n → (s.env.detIn.nth Config.freeDetIn i ^^ s.cfg[1]) = true) →
    ∃ t, runCommands (List.replicate n .cpoll) s = .next t ∧ t.conn = s.conn ∧
      (s.cfg[0] = true → (s.env.detIn.nth Config.freeDetIn n ^^ s.cfg[1]) = false →
        ∃ u, exec .cpoll t = .next u ∧ u.conn.state = .unplug ∧ u.conn.level = false)

/-- The law of the millisecond clock (R310): the modular difference of two successive samples is the true elapsed time
whenever that is below 2^32 ms. That the environment is held as a count and elapsed times is the model's choice, log 3. -/
def Obligations.ClockSamplesObeyTheLaw : Prop :=
  ∀ s : State,
    s.takeNowMs.nowMs - s.nowMs = BitVec.ofNat 32 s.takeNowMs.elapsedNext ∧
    (s.takeNowMs.elapsedNext < 2 ^ 32 → (s.takeNowMs.nowMs - s.nowMs).toNat = s.takeNowMs.elapsedNext)

/-! ## Axes -/

/-- AREAD on a used and on an unused port, both axes (R141). -/
def Obligations.AreadSamplesAndReportsChange : Prop :=
  decode 0x2000 = .ok (.aread .x) ∧ decode 0x2001 = .ok (.aread .y) ∧
  ∀ s : State,
    (s.cfg[6] = true →
      let old := s.ax0.raw.toInt
      let new := ((s.ain .x).toNat : Int)
      let lo := if s.ax0.min.toInt ≤ s.ax0.max.toInt then s.ax0.min.toInt else s.ax0.max.toInt
      let hi := if s.ax0.min.toInt ≤ s.ax0.max.toInt then s.ax0.max.toInt else s.ax0.min.toInt
      let c := decide (new ≠ old ∧ ¬ (old < lo ∧ new < lo) ∧ ¬ (old > hi ∧ new > hi))
      exec (.aread .x) s = .next { s with
        ax0 := { s.ax0 with raw := (s.ain .x).setWidth 16 }
        flags := { s.flags with chgAx0 := c }
        res := if c then 1 else 0
        env := { s.env with ain0 := s.env.ain0.after 1 } }) ∧
    (s.cfg[6] = false →
      exec (.aread .x) s = .next { s with flags := { s.flags with chgAx0 := false }, res := 0 }) ∧
    (s.cfg[7] = true →
      let old := s.ax1.raw.toInt
      let new := ((s.ain .y).toNat : Int)
      let lo := if s.ax1.min.toInt ≤ s.ax1.max.toInt then s.ax1.min.toInt else s.ax1.max.toInt
      let hi := if s.ax1.min.toInt ≤ s.ax1.max.toInt then s.ax1.max.toInt else s.ax1.min.toInt
      let c := decide (new ≠ old ∧ ¬ (old < lo ∧ new < lo) ∧ ¬ (old > hi ∧ new > hi))
      exec (.aread .y) s = .next { s with
        ax1 := { s.ax1 with raw := (s.ain .y).setWidth 16 }
        flags := { s.flags with chgAx1 := c }
        res := if c then 1 else 0
        env := { s.env with ain1 := s.env.ain1.after 1 } }) ∧
    (s.cfg[7] = false →
      exec (.aread .y) s = .next { s with flags := { s.flags with chgAx1 := false }, res := 0 })

/-- The change-suppression property (R150): two successive samples both below the sorted lower bound, or both above the
upper, never report changed; from below one bound to above the other, or back, always does. -/
def Obligations.SaturatedSamplesReportNoChange : Prop :=
  ∀ (a : Axis) (s t : State), s.axEn a = true → exec (.aread a) s = .next t →
    let old := (s.ax a).raw.toInt
    let new := ((s.ain a).toNat : Int)
    let lo := Min.min (s.ax a).min.toInt (s.ax a).max.toInt
    let hi := Max.max (s.ax a).min.toInt (s.ax a).max.toInt
    (old < lo ∧ new < lo ∨ old > hi ∧ new > hi → t.res = 0) ∧
    (old < lo ∧ new > hi ∨ old > hi ∧ new < lo → t.res = 1)

/-- AGETPOS: the saturating, reflected interpolation in exact arithmetic, its result between the two output bounds and so
held exactly by 32 bits (R143, R144). -/
def Obligations.AgetposRemapsTheBuffer : Prop :=
  decode 0x2100 = .ok (.agetpos .x) ∧ decode 0x2101 = .ok (.agetpos .y) ∧
  ∀ (a : Axis) (s : State),
    let lo := Min.min (s.ax a).min.toInt (s.ax a).max.toInt
    let hi := Max.max (s.ax a).min.toInt (s.ax a).max.toInt
    let v := (s.ax a).raw.toInt
    let w := if (s.ax a).min.toInt > (s.ax a).max.toInt then lo + hi - v else v
    let oMin := s.arg0.toInt
    let oMax := s.arg1.toInt
    let r := if w ≤ lo then oMin else if w ≥ hi then oMax
      else oMin + Int.tdiv ((w - lo) * (oMax - oMin)) (hi - lo)
    exec (.agetpos a) s = .next { s with res := BitVec.ofInt 32 r } ∧
    Min.min oMin oMax ≤ r ∧ r ≤ Max.max oMin oMax ∧ (BitVec.ofInt 32 r : Word).toInt = r

/-- R145 (2), (3): the remap is monotone in the raw value, in the direction that the orientations of the calibration and of
the output bounds give. -/
def Obligations.RemapIsMonotone : Prop :=
  ∀ (c : AxisState) (v v' oMin oMax : Int), v ≤ v' →
    (c.min.toInt ≤ c.max.toInt → oMin ≤ oMax → c.remap v oMin oMax ≤ c.remap v' oMin oMax) ∧
    (c.min.toInt > c.max.toInt → oMin ≤ oMax → c.remap v' oMin oMax ≤ c.remap v oMin oMax) ∧
    (c.min.toInt ≤ c.max.toInt → oMax ≤ oMin → c.remap v' oMin oMax ≤ c.remap v oMin oMax) ∧
    (c.min.toInt > c.max.toInt → oMax ≤ oMin → c.remap v oMin oMax ≤ c.remap v' oMin oMax)

/-- R145 (1), (4) and R151: the calibration bounds map to the output bounds, a raw value outside the calibration to the
nearer one, and equal output bounds to that value. Case (1) is stated for two different calibration bounds: for equal ones
R143 itself returns `oMin`. -/
def Obligations.RemapMeetsTheOutputBounds : Prop :=
  ∀ (c : AxisState) (v oMin oMax : Int),
    (c.min ≠ c.max →
      c.remap c.min.toInt oMin oMax = oMin ∧ c.remap c.max.toInt oMin oMax = oMax) ∧
    (c.min.toInt < c.max.toInt →
      (v ≤ c.min.toInt → c.remap v oMin oMax = oMin) ∧ (v ≥ c.max.toInt → c.remap v oMin oMax = oMax)) ∧
    (c.min.toInt > c.max.toInt →
      (v ≥ c.min.toInt → c.remap v oMin oMax = oMin) ∧ (v ≤ c.max.toInt → c.remap v oMin oMax = oMax)) ∧
    c.remap v oMin oMin = oMin

/-- ASETPOS: the low half of `ARG0` overwrites the buffer, and nothing else changes (R146). -/
def Obligations.AsetposForcesTheBuffer : Prop :=
  decode 0x2200 = .ok (.asetpos .x) ∧ decode 0x2201 = .ok (.asetpos .y) ∧
  ∀ s : State,
    exec (.asetpos .x) s = .next { s with ax0 := { s.ax0 with raw := s.arg0.setWidth 16 } } ∧
    exec (.asetpos .y) s = .next { s with ax1 := { s.ax1 with raw := s.arg0.setWidth 16 } }

/-- ASETINV: the bounds are swapped exactly when the inversion differs from `ARG0[0]`; after it the axis is inverted as
asked, unless its bounds are equal (R147). -/
def Obligations.AsetinvSwapsOnlyWhenItDiffers : Prop :=
  decode 0x2300 = .ok (.asetinv .x) ∧ decode 0x2301 = .ok (.asetinv .y) ∧
  ∀ s : State,
    (decide (s.ax0.min.toInt > s.ax0.max.toInt) ≠ s.arg0[0] →
      exec (.asetinv .x) s = .next { s with ax0 := { s.ax0 with min := s.ax0.max, max := s.ax0.min } }) ∧
    (decide (s.ax0.min.toInt > s.ax0.max.toInt) = s.arg0[0] → exec (.asetinv .x) s = .next s) ∧
    (decide (s.ax1.min.toInt > s.ax1.max.toInt) ≠ s.arg0[0] →
      exec (.asetinv .y) s = .next { s with ax1 := { s.ax1 with min := s.ax1.max, max := s.ax1.min } }) ∧
    (decide (s.ax1.min.toInt > s.ax1.max.toInt) = s.arg0[0] → exec (.asetinv .y) s = .next s) ∧
    (∀ (a : Axis) (t : State), exec (.asetinv a) s = .next t → (s.ax a).min ≠ (s.ax a).max →
      (t.ax a).inverted = s.arg0[0])

/-- ASETCAL: the bounds are the low halves of `ARG0` and `ARG1`, unchecked (R148). -/
def Obligations.AsetcalStoresTheBounds : Prop :=
  decode 0x2400 = .ok (.asetcal .x) ∧ decode 0x2401 = .ok (.asetcal .y) ∧
  ∀ s : State,
    exec (.asetcal .x) s =
      .next { s with ax0 := { s.ax0 with min := s.arg0.setWidth 16, max := s.arg1.setWidth 16 } } ∧
    exec (.asetcal .y) s =
      .next { s with ax1 := { s.ax1 with min := s.arg0.setWidth 16, max := s.arg1.setWidth 16 } }

/-- AISINV (R140, R149). -/
def Obligations.AisinvTellsInversion : Prop :=
  decode 0x2500 = .ok (.aisinv .x) ∧ decode 0x2501 = .ok (.aisinv .y) ∧
  ∀ s : State,
    exec (.aisinv .x) s = .next { s with res := if s.ax0.min.toInt > s.ax0.max.toInt then 1 else 0 } ∧
    exec (.aisinv .y) s = .next { s with res := if s.ax1.min.toInt > s.ax1.max.toInt then 1 else 0 }

/-! ## Gear decoder -/

/-- GSETCAL: every value it stores, as an exact integer (so none is lost to the 16-bit width), and nothing else changes
(R171, R172 (1)). -/
def Obligations.GsetcalDerivesTheCalibration : Prop :=
  decode 0x3000 = .ok .gsetcal ∧
  ∀ s : State,
    let x : Word → Int := fun g => (g.setWidth 16).toInt
    let y : Word → Int := fun g => ((g >>> 16).setWidth 16).toInt
    let pc : Half → Int := fun p => if p.toInt < 0 then 0 else if p.toInt > 100 then 100 else p.toInt
    let sc : Int → Int → Int := fun d p => Int.tdiv (d * p) 100
    ∃ t, exec .gsetcal s = .next t ∧
      t = { s with ax0 := t.ax0, ax1 := t.ax1, gc := t.gc } ∧
      t.ax0.raw = s.ax0.raw ∧ t.ax1.raw = s.ax1.raw ∧
      t.ax0.min.toInt = Int.tdiv (x s.cal.gs1 + x s.cal.gs2) 2 ∧
      t.ax0.max.toInt = Int.tdiv (x s.cal.gs5 + x s.cal.gs6) 2 ∧
      t.ax1.min.toInt = Int.tdiv (y s.cal.gs2 + y s.cal.gs4 + y s.cal.gs6) 3 ∧
      t.ax1.max.toInt = Int.tdiv (y s.cal.gs1 + y s.cal.gs3 + y s.cal.gs5) 3 ∧
      t.gc.nrawX.toInt = x s.cal.gs0 ∧ t.gc.nrawY.toInt = y s.cal.gs0 ∧
      (let nx := t.ax0.remap (x s.cal.gs0) 0 1023
       let ny := t.ax1.remap (y s.cal.gs0) 0 1023
       let pe := pc s.cal.gpEng
       let pr := pc s.cal.gpRel
       let po := pc s.cal.gpEdge
       t.gc.neutX.toInt = nx ∧ t.gc.neutY.toInt = ny ∧
       t.gc.oddTrig.toInt = ny + sc (1023 - ny) pe ∧ t.gc.oddRel.toInt = ny + sc (1023 - ny) pr ∧
       t.gc.evenTrig.toInt = ny - sc ny pe ∧ t.gc.evenRel.toInt = ny - sc ny pr ∧
       t.gc.right.toInt = nx + sc (1023 - nx) po ∧ t.gc.left.toInt = nx - sc nx po)

/-- R172 (1), (2), (3): after GSETCAL every threshold is in 0 to 1023 and the thresholds are in order, those of release
against trigger when the release percentage is not above the engage percentage. -/
def Obligations.GsetcalOrdersTheThresholds : Prop :=
  ∀ s t : State, exec .gsetcal s = .next t →
    (∀ h, h ∈ [t.gc.neutX, t.gc.neutY, t.gc.oddTrig, t.gc.oddRel, t.gc.evenTrig, t.gc.evenRel, t.gc.left, t.gc.right] →
      0 ≤ h.toInt ∧ h.toInt ≤ 1023) ∧
    t.gc.left.toInt ≤ t.gc.neutX.toInt ∧ t.gc.neutX.toInt ≤ t.gc.right.toInt ∧
    t.gc.evenTrig.toInt ≤ t.gc.neutY.toInt ∧ t.gc.neutY.toInt ≤ t.gc.oddTrig.toInt ∧
    (pct s.cal.gpRel ≤ pct s.cal.gpEng →
      t.gc.evenTrig.toInt ≤ t.gc.evenRel.toInt ∧ t.gc.evenRel.toInt ≤ t.gc.neutY.toInt ∧
      t.gc.neutY.toInt ≤ t.gc.oddRel.toInt ∧ t.gc.oddRel.toInt ≤ t.gc.oddTrig.toInt)

/-- GUPDATE while not connected: the idle path, which samples no pin (R174, R175). -/
def Obligations.GupdateIdlesWhenNotConnected : Prop :=
  decode 0x3100 = .ok .gupdate ∧
  ∀ s : State, s.conn.state ≠ .connected →
    exec .gupdate s = .next { s with
      ax0 := { s.ax0 with raw := s.gc.nrawX }
      ax1 := { s.ax1 with raw := s.gc.nrawY }
      gear := { s.gear with prev := s.gear.cur, cur := 0 }
      flags := { s.flags with chgGear := decide (s.gear.cur ≠ 0) }
      res := if s.gear.cur ≠ 0 then 1 else 0 }

/-- GUPDATE while connected: AREAD X, AREAD Y, the reverse snapshot, steps 1 to 6 and `BoundGear` (R174, R176, R180). -/
def Obligations.GupdateDecodesWhenConnected : Prop :=
  ∀ s : State, s.conn.state = .connected →
    ∃ s2, runCommands [.aread .x, .aread .y] s = .next s2 ∧
      (let rev := if s.cfg[2] then s.revIn else false
       let s3 := if s.cfg[2] then s2.takeRevIn else s2
       let x := s2.ax0.remap s2.ax0.raw.toInt 0 1023
       let y := s2.ax1.remap s2.ax1.raw.toInt 0 1023
       let p := s.gear.cur.toInt
       let row : Int := if y > s.gc.oddTrig.toInt then 1 else if y < s.gc.evenTrig.toInt then 2 else 0
       let slot : Int :=
         if row = 0 then 0
         else if x > s.gc.right.toInt then row + 4 else if x ≥ s.gc.left.toInt then row + 2 else row
       let g5 : Int := if rev = true ∧ slot = 5 then 0 else slot
       let g6 : Int := if (rev = true ∨ p = -1) ∧ g5 = 6 then -1 else g5
       let g0 : Int :=
         if ((p = 1 ∨ p = 3 ∨ p = 5) ∧ y > s.gc.oddRel.toInt) ∨ ((p = 2 ∨ p = 4 ∨ p = 6) ∧ y < s.gc.evenRel.toInt) then p
         else g6
       let minGear : Int := if s.cfg[2] then -1 else 0
       let maxGear : Int := (s.cfg.extractLsb' 8 3).toNat
       let g : Int := if minGear ≤ g0 ∧ g0 ≤ maxGear then g0 else 0
       exec .gupdate s = .next { s3 with
         gear := { cur := BitVec.ofInt 8 g, prev := s.gear.cur, rev := rev }
         flags := { s2.flags with chgGear := decide (g ≠ p) }
         res := if g ≠ p then 1 else 0 })

/-- The map from stick position to gear (R177), for a previous gear that is neither reverse nor retained, reverse not pressed,
all six gears in bounds and the thresholds in the order GSETCAL gives them (R172 (2), (3)). `x` and `y` are the normalised
positions after the two reads of the decode. -/
def Obligations.GearGateMap : Prop :=
  ∀ s s2 : State, s.conn.state = .connected → runCommands [.aread .x, .aread .y] s = .next s2 →
    s.gear.cur.toInt ≠ -1 →
    ¬ (((s.gear.cur.toInt = 1 ∨ s.gear.cur.toInt = 3 ∨ s.gear.cur.toInt = 5) ∧ s2.ax1.norm > s.gc.oddRel.toInt) ∨
      ((s.gear.cur.toInt = 2 ∨ s.gear.cur.toInt = 4 ∨ s.gear.cur.toInt = 6) ∧ s2.ax1.norm < s.gc.evenRel.toInt)) →
    (s.cfg[2] = true → s.revIn = false) → 6 ≤ (s.cfg.extractLsb' 8 3).toNat →
    s.gc.evenTrig.toInt ≤ s.gc.oddTrig.toInt → s.gc.left.toInt ≤ s.gc.right.toInt →
    ∃ t, exec .gupdate s = .next t ∧
      (let x := s2.ax0.norm
       let y := s2.ax1.norm
       (y > s.gc.oddTrig.toInt → x < s.gc.left.toInt → t.gear.cur.toInt = 1) ∧
       (y > s.gc.oddTrig.toInt → s.gc.left.toInt ≤ x → x ≤ s.gc.right.toInt → t.gear.cur.toInt = 3) ∧
       (y > s.gc.oddTrig.toInt → x > s.gc.right.toInt → t.gear.cur.toInt = 5) ∧
       (s.gc.evenTrig.toInt ≤ y → y ≤ s.gc.oddTrig.toInt → t.gear.cur.toInt = 0) ∧
       (y < s.gc.evenTrig.toInt → x < s.gc.left.toInt → t.gear.cur.toInt = 2) ∧
       (y < s.gc.evenTrig.toInt → s.gc.left.toInt ≤ x → x ≤ s.gc.right.toInt → t.gear.cur.toInt = 4) ∧
       (y < s.gc.evenTrig.toInt → x > s.gc.right.toInt → t.gear.cur.toInt = 6))

/-- Gear hysteresis (R176 step 2, R178 (3), (4), R179): an odd gear while Y is above its release threshold, an even gear while
Y is below, is kept whatever X and the reverse button are; gear 3 with Y no longer above `oddRelease`, and in neither row,
returns to neutral. -/
def Obligations.HysteresisKeepsTheGear : Prop :=
  ∀ s s2 : State, s.conn.state = .connected → runCommands [.aread .x, .aread .y] s = .next s2 →
    s.gear.cur.toInt ≤ (s.cfg.extractLsb' 8 3).toNat →
    ∃ t, exec .gupdate s = .next t ∧
      (let p := s.gear.cur.toInt
       let y := s2.ax1.norm
       (((p = 1 ∨ p = 3 ∨ p = 5) ∧ y > s.gc.oddRel.toInt) ∨ ((p = 2 ∨ p = 4 ∨ p = 6) ∧ y < s.gc.evenRel.toInt) →
         t.gear.cur = s.gear.cur ∧ t.gear.prev = s.gear.cur ∧ t.flags.chgGear = false ∧ t.res = 0) ∧
       (p = 3 → y ≤ s.gc.oddRel.toInt → y ≤ s.gc.oddTrig.toInt → s.gc.evenTrig.toInt ≤ y →
         t.gear.cur = 0 ∧ t.gear.prev = s.gear.cur ∧ t.flags.chgGear = true ∧ t.res = 1))

/-- The reverse interlock (R176 step 5, R179): with reverse pressed and a previous gear that is not retained, the slot of gear
5 gives neutral and the slot of gear 6 gives reverse. -/
def Obligations.ReverseInterlock : Prop :=
  ∀ s s2 : State, s.conn.state = .connected → runCommands [.aread .x, .aread .y] s = .next s2 →
    s.cfg[2] = true → s.revIn = true →
    (let p := s.gear.cur.toInt
     let y := s2.ax1.norm
     ¬ (((p = 1 ∨ p = 3 ∨ p = 5) ∧ y > s.gc.oddRel.toInt) ∨ ((p = 2 ∨ p = 4 ∨ p = 6) ∧ y < s.gc.evenRel.toInt))) →
    s2.ax0.norm > s.gc.right.toInt →
    ∃ t, exec .gupdate s = .next t ∧ t.gear.rev = true ∧
      (s2.ax1.norm > s.gc.oddTrig.toInt → t.gear.cur.toInt = 0) ∧
      (s2.ax1.norm ≤ s.gc.oddTrig.toInt → s2.ax1.norm < s.gc.evenTrig.toInt → t.gear.cur.toInt = -1)

/-- R178 (1), (2): from reverse the gear stays −1 exactly while Y is below the even trigger and X beyond the right edge,
whether or not the button is still pressed; no release threshold applies. -/
def Obligations.ReverseStaysInItsSlot : Prop :=
  ∀ s s2 : State, s.conn.state = .connected → runCommands [.aread .x, .aread .y] s = .next s2 →
    s.cfg[2] = true → s.gear.cur.toInt = -1 → s.gc.evenTrig.toInt ≤ s.gc.oddTrig.toInt →
    ∃ t, exec .gupdate s = .next t ∧
      (t.gear.cur.toInt = -1 ↔ s2.ax1.norm < s.gc.evenTrig.toInt ∧ s2.ax0.norm > s.gc.right.toInt)

/-- R180: no gear outside `MINGEAR` to `MAXGEAR` is ever committed; it becomes neutral. -/
def Obligations.GearStaysInBounds : Prop :=
  ∀ s t : State, exec .gupdate s = .next t →
    (if s.cfg[2] then -1 else 0) ≤ t.gear.cur.toInt ∧ t.gear.cur.toInt ≤ (s.cfg.extractLsb' 8 3).toNat

/-- GGET; the same value is in `GEARCUR` (R182). -/
def Obligations.GgetReadsTheGear : Prop :=
  decode 0x3200 = .ok .gget ∧
  ∀ s : State,
    exec .gget s = .next { s with res := s.gear.cur.signExtend 32 } ∧ s.readWord 0x0C = s.gear.cur.signExtend 32

/-! ## Sequential decoder -/

/-- SSETCAL: the four thresholds as exact integers, and nothing else changes (R201). -/
def Obligations.SsetcalDerivesTheCalibration : Prop :=
  decode 0x4000 = .ok .ssetcal ∧
  ∀ s : State,
    let pc : Half → Int := fun p => if p.toInt < 0 then 0 else if p.toInt > 100 then 100 else p.toInt
    let pe := pc s.cal.sqpEng
    let pr := if pc s.cal.sqpRel > pe then pe else pc s.cal.sqpRel
    let n := s.cal.sqNeu.toInt
    let u := s.cal.sqUp.toInt
    let d := s.cal.sqDn.toInt
    ∃ t, exec .ssetcal s = .next t ∧ t = { s with sc := t.sc } ∧
      t.sc.upTrig.toInt = n + Int.tdiv ((u - n) * pe) 100 ∧ t.sc.upRel.toInt = n + Int.tdiv ((u - n) * pr) 100 ∧
      t.sc.dnTrig.toInt = n - Int.tdiv ((n - d) * pe) 100 ∧ t.sc.dnRel.toInt = n - Int.tdiv ((n - d) * pr) 100

/-- R202 (1): with the up sample above neutral and the down sample below, the thresholds are in order. -/
def Obligations.SsetcalOrdersTheThresholds : Prop :=
  ∀ s t : State, exec .ssetcal s = .next t →
    s.cal.sqDn.toInt < s.cal.sqNeu.toInt → s.cal.sqNeu.toInt < s.cal.sqUp.toInt →
    t.sc.dnTrig.toInt ≤ t.sc.dnRel.toInt ∧ t.sc.dnRel.toInt ≤ s.cal.sqNeu.toInt ∧
    s.cal.sqNeu.toInt ≤ t.sc.upRel.toInt ∧ t.sc.upRel.toInt ≤ t.sc.upTrig.toInt

/-- SSTEP. In sequential mode: the tri-state's one-sided hysteresis, the suppressed gear change, the gear forced to neutral
once, and on the first cycle twice. Out of it: the tri-state returns to neutral and the gear decoder is left alone;
`seqmode_in` is sampled only when it is used and the device connected (R203). -/
def Obligations.SstepFollowsItsMode : Prop :=
  decode 0x4100 = .ok .sstep ∧
  ∀ s : State,
    (s.cfg[3] = true → s.conn.state = .connected → s.seqModeIn = true →
      let y := s.ax1.raw.toInt
      let new : BitVec 2 :=
        if s.seq.state = 0 then (if y ≥ s.sc.upTrig.toInt then 1 else if y ≤ s.sc.dnTrig.toInt then 3 else 0)
        else if s.seq.state = 1 then (if y < s.sc.upRel.toInt then 0 else 1)
        else (if y > s.sc.dnRel.toInt then 0 else 3)
      exec .sstep s = .next { s with
        gear := { s.gear with prev := if s.seq.active then s.gear.cur else 0, cur := 0 }
        seq := { state := new, active := true }
        flags := { s.flags with chgGear := false, chgSeq := decide (new ≠ s.seq.state) }
        res := if new ≠ s.seq.state then 1 else 0
        env := { s.env with seqModeIn := s.env.seqModeIn.after 1 } }) ∧
    (s.cfg[3] = false ∨ s.conn.state ≠ .connected →
      exec .sstep s = .next { s with
        seq := { state := 0, active := false }
        flags := { s.flags with chgSeq := decide (s.seq.state ≠ 0) }
        res := if s.seq.state ≠ 0 then 1 else 0 }) ∧
    (s.cfg[3] = true → s.conn.state = .connected → s.seqModeIn = false →
      exec .sstep s = .next { s with
        seq := { state := 0, active := false }
        flags := { s.flags with chgSeq := decide (s.seq.state ≠ 0) }
        res := if s.seq.state ≠ 0 then 1 else 0
        env := { s.env with seqModeIn := s.env.seqModeIn.after 1 } })

/-- R204, R263 (4): an UPDATE that ends in sequential mode leaves the gear neutral and its change suppressed, so `CHG` comes
from the buttons and the tri-state only; on the first sequential cycle the previous gear is neutral too. -/
def Obligations.SequentialModeSuppressesTheGear : Prop :=
  ∀ s t : State, exec .update s = .next t → t.seq.active = true →
    t.gear.cur = 0 ∧ t.flags.chgGear = false ∧ t.flags.chg = (t.flags.chgBtn || t.flags.chgSeq) ∧
    t.conn.state = .connected ∧ (s.seq.active = false → t.gear.prev = 0)

/-- SGET; the same value is in `SEQST` (R206). -/
def Obligations.SgetReadsTheTriState : Prop :=
  decode 0x4200 = .ok .sget ∧
  ∀ s : State,
    exec .sget s = .next { s with res := s.seq.state.signExtend 32 } ∧ s.readWord 0x0E = s.seq.state.signExtend 32

/-! ## Bus controller -/

/-- BSERVICE while connected: the lines are driven first if they are not, the 16 samples land MSB first, the cache shifts, the
pin events are those of R222 and R224 in order (R221, R222, R224, R225). -/
def Obligations.BserviceReadsTheButtonWord : Prop :=
  decode 0x5000 = .ok .bservice ∧
  ∀ s : State, s.cfg[4] = true → s.conn.state = .connected →
    ∃ w : Half, (∀ i, i < 16 → w.getLsbD (15 - i) = s.env.srData.nth Config.freeSrData i) ∧
      exec .bservice s = .next { s with
        srb := { s.srb with cur := w, prev := s.srb.cur, driven := true }
        pin := if s.srb.driven then { s.pin with latchO := true, clockO := false }
          else if s.cfg[5] then
            { latchO := true, clockO := false, ledO := s.srb.ledCmd, ledOe := true, busOe := true }
          else { s.pin with latchO := true, clockO := false, busOe := true }
        flags := { s.flags with chgBtn := decide (w ≠ s.srb.cur) }
        res := if w ≠ s.srb.cur then 1 else 0
        env := { s.env with
          events := s.env.events ++ (if s.srb.driven then [] else driveEvents (s.cfg[5]) s.srb.ledCmd)
            ++ shiftEvents s.busSamples
          srData := s.env.srData.after 16 } }

/-- BSERVICE while not connected, or with the bus absent: driven lines are released, the word is all zeros, no sample is
taken (R221, R223). -/
def Obligations.BserviceReleasesWhenNotConnected : Prop :=
  ∀ s : State, s.cfg[4] = false ∨ s.conn.state ≠ .connected →
    exec .bservice s = .next { s with
      srb := { s.srb with cur := 0, prev := s.srb.cur, driven := false }
      pin := if s.srb.driven then { s.pin with busOe := false, ledOe := false } else s.pin
      flags := { s.flags with chgBtn := decide (s.srb.cur ≠ 0) }
      res := if s.srb.cur ≠ 0 then 1 else 0
      env := { s.env with events := s.env.events ++ (if s.srb.driven then releaseEvents else []) } }

/-- R313: after every BSERVICE, and so every UPDATE, the lines are enabled only if the device is connected and the bus is
present; otherwise the three wires are high impedance. The premises are clause (d) of R43 and its LED companion, which every
step keeps. -/
def Obligations.LinesAreReleasedUnlessConnected : Prop :=
  ∀ (i : Instr) (s t : State), i = .bservice ∨ i = .update → s.pin.busOe = s.srb.driven →
    (s.pin.ledOe = true → s.srb.driven = true) → exec i s = .next t →
    (t.pin.busOe = true ↔ t.conn.state = .connected ∧ t.cfg[4] = true) ∧
    (¬ (t.conn.state = .connected ∧ t.cfg[4] = true) →
      t.wireLatch = none ∧ t.wireClock = none ∧ t.wireLed = none)

/-- BSETLED: the command is remembered; it reaches the line at once only while the bus is driven and the LED used (R226). -/
def Obligations.BsetledRemembersTheCommand : Prop :=
  decode 0x5100 = .ok .bsetled ∧
  ∀ s : State,
    (s.srb.driven = true → s.cfg[5] = true →
      exec .bsetled s = .next { s with
        srb := { s.srb with ledCmd := s.arg0[0] }
        pin := { s.pin with ledO := s.arg0[0] }
        env := { s.env with events := s.env.events ++ [.led (s.arg0[0])] } }) ∧
    (s.srb.driven = false ∨ s.cfg[5] = false →
      exec .bsetled s = .next { s with srb := { s.srb with ledCmd := s.arg0[0] } })

/-- The button queries (R228 to R232): BGET, BCHG, BANY, BPRS, BREL for every button; `BCHG n == BPRS n OR BREL n`; BANY agrees
with the bits, and with `CHG_BTN` after every BSERVICE. -/
def Obligations.ButtonQueries : Prop :=
  (∀ n : Nat, n < 16 →
    decode (0x5200 + BitVec.ofNat 16 n) = .ok (.bget n) ∧ decode (0x5300 + BitVec.ofNat 16 n) = .ok (.bchg n) ∧
    decode (0x5500 + BitVec.ofNat 16 n) = .ok (.bprs n) ∧ decode (0x5600 + BitVec.ofNat 16 n) = .ok (.brel n)) ∧
  decode 0x5400 = .ok .bany ∧
  ∀ (s : State) (n : Nat), n < 16 →
    exec (.bget n) s = .next { s with res := if s.srb.cur.getLsbD n = true then 1 else 0 } ∧
    exec (.bchg n) s = .next { s with res := if s.srb.cur.getLsbD n ≠ s.srb.prev.getLsbD n then 1 else 0 } ∧
    exec (.bprs n) s =
      .next { s with res := if s.srb.cur.getLsbD n = true ∧ s.srb.prev.getLsbD n = false then 1 else 0 } ∧
    exec (.brel n) s =
      .next { s with res := if s.srb.prev.getLsbD n = true ∧ s.srb.cur.getLsbD n = false then 1 else 0 } ∧
    exec .bany s = .next { s with res := if s.srb.cur ≠ s.srb.prev then 1 else 0 } ∧
    (∀ c p r, exec (.bchg n) s = .next c → exec (.bprs n) s = .next p → exec (.brel n) s = .next r →
      c.res = p.res ||| r.res) ∧
    (∀ y, exec .bany s = .next y → (y.res = 1 ↔ ∃ m, m < 16 ∧ s.srb.cur.getLsbD m ≠ s.srb.prev.getLsbD m)) ∧
    (∀ u y, exec .bservice s = .next u → exec .bany u = .next y → y.res = if u.flags.chgBtn then 1 else 0)

/-- DPAD: both opposing cardinals pressed count as neither, and what remains is a direction of eight, clockwise from up, 45
degrees a step, or −1; the table of R233 follows from that rule (R233, R234). -/
def Obligations.DpadCleansOpposites : Prop :=
  decode 0x5700 = .ok .dpad ∧
  ∀ s : State,
    let u := s.srb.cur.getLsbD (s.dpadMap.extractLsb' 0 4).toNat
    let r := s.srb.cur.getLsbD (s.dpadMap.extractLsb' 4 4).toNat
    let d := s.srb.cur.getLsbD (s.dpadMap.extractLsb' 8 4).toNat
    let l := s.srb.cur.getLsbD (s.dpadMap.extractLsb' 12 4).toNat
    let up := u && !d
    let down := d && !u
    let right := r && !l
    let left := l && !r
    let angle : Int :=
      if up then (if right then 45 else if left then 315 else 0)
      else if down then (if right then 135 else if left then 225 else 180)
      else if right then 90 else if left then 270 else -1
    exec .dpad s = .next { s with res := BitVec.ofInt 32 angle }

/-! ## Top level -/

/-- NOP (R260). -/
def Obligations.NopChangesNothing : Prop :=
  decode 0x0000 = .ok .nop ∧ ∀ s : State, exec .nop s = .next s

/-- UPDATE: the four calls in order, each on the state the previous one left, then `CHG` and `RES` (R262). -/
def Obligations.UpdateRunsTheFourCalls : Prop :=
  decode 0x0100 = .ok .update ∧
  ∀ s : State, ∃ t,
    runCommands [.cpoll, .bservice, .gupdate, .sstep] s = .next t ∧
    exec .update s = .next { t with
      flags := { t.flags with chg := t.flags.chgBtn || t.flags.chgGear || t.flags.chgSeq }
      res := if t.flags.chgBtn || t.flags.chgGear || t.flags.chgSeq then 1 else 0 }

/-- R263 (1): an UPDATE after whose poll the device is not connected takes the disconnected path in all three later steps. -/
def Obligations.UpdateGoesIdleWhenNotConnected : Prop :=
  ∀ s t : State, exec .update s = .next t → t.conn.state ≠ .connected →
    t.srb.cur = 0 ∧ t.srb.prev = s.srb.cur ∧ t.srb.driven = false ∧
    t.gear.cur = 0 ∧ t.gear.prev = s.gear.cur ∧ t.seq.state = 0 ∧ t.seq.active = false ∧
    t.ax0.raw = s.gc.nrawX ∧ t.ax1.raw = s.gc.nrawY ∧
    t.flags.chg = (decide (s.srb.cur ≠ 0) || decide (s.gear.cur ≠ 0) || decide (s.seq.state ≠ 0))

/-- R263 (3): in PlugIn, Unplug and Disconnected every UPDATE after the first gives `CHG = 0`, however many follow. -/
def Obligations.IdleUpdatesReportNoChange : Prop :=
  ∀ (n : Nat) (s t : State),
    (∀ (k : Nat) (u : State), k ≤ n + 1 → runCommands (List.replicate (k + 1) .update) s = .next u →
      u.conn.state ≠ .connected) →
    runCommands (List.replicate (n + 2) .update) s = .next t →
    t.flags.chg = false ∧ t.res = 0 ∧ t.srb.cur = 0 ∧ t.gear.cur = 0 ∧ t.seq.state = 0
end

