-- ==== Sys2Proof/Laws/State.lean ====
section
/-! SUPPORT. One lemma per field per update of State, true by rfl, so that no proof unfolds a record update. -/

namespace Sys2Proof.Machine

/-! `State.setArg0` -/

@[simp] theorem setArg0_arg0 (s : State) (v : Word) : (s.setArg0 v).arg0 = v := rfl
@[simp] theorem setArg0_arg1 (s : State) (v : Word) : (s.setArg0 v).arg1 = s.arg1 := rfl
@[simp] theorem setArg0_res (s : State) (v : Word) : (s.setArg0 v).res = s.res := rfl
@[simp] theorem setArg0_cfg (s : State) (v : Word) : (s.setArg0 v).cfg = s.cfg := rfl
@[simp] theorem setArg0_flags (s : State) (v : Word) : (s.setArg0 v).flags = s.flags := rfl
@[simp] theorem setArg0_conn (s : State) (v : Word) : (s.setArg0 v).conn = s.conn := rfl
@[simp] theorem setArg0_ax0 (s : State) (v : Word) : (s.setArg0 v).ax0 = s.ax0 := rfl
@[simp] theorem setArg0_ax1 (s : State) (v : Word) : (s.setArg0 v).ax1 = s.ax1 := rfl
@[simp] theorem setArg0_gear (s : State) (v : Word) : (s.setArg0 v).gear = s.gear := rfl
@[simp] theorem setArg0_gc (s : State) (v : Word) : (s.setArg0 v).gc = s.gc := rfl
@[simp] theorem setArg0_cal (s : State) (v : Word) : (s.setArg0 v).cal = s.cal := rfl
@[simp] theorem setArg0_seq (s : State) (v : Word) : (s.setArg0 v).seq = s.seq := rfl
@[simp] theorem setArg0_sc (s : State) (v : Word) : (s.setArg0 v).sc = s.sc := rfl
@[simp] theorem setArg0_srb (s : State) (v : Word) : (s.setArg0 v).srb = s.srb := rfl
@[simp] theorem setArg0_pin (s : State) (v : Word) : (s.setArg0 v).pin = s.pin := rfl
@[simp] theorem setArg0_dpadMap (s : State) (v : Word) : (s.setArg0 v).dpadMap = s.dpadMap := rfl
@[simp] theorem setArg0_env (s : State) (v : Word) : (s.setArg0 v).env = s.env := rfl

/-! `State.setArg1` -/

@[simp] theorem setArg1_arg0 (s : State) (v : Word) : (s.setArg1 v).arg0 = s.arg0 := rfl
@[simp] theorem setArg1_arg1 (s : State) (v : Word) : (s.setArg1 v).arg1 = v := rfl
@[simp] theorem setArg1_res (s : State) (v : Word) : (s.setArg1 v).res = s.res := rfl
@[simp] theorem setArg1_cfg (s : State) (v : Word) : (s.setArg1 v).cfg = s.cfg := rfl
@[simp] theorem setArg1_flags (s : State) (v : Word) : (s.setArg1 v).flags = s.flags := rfl
@[simp] theorem setArg1_conn (s : State) (v : Word) : (s.setArg1 v).conn = s.conn := rfl
@[simp] theorem setArg1_ax0 (s : State) (v : Word) : (s.setArg1 v).ax0 = s.ax0 := rfl
@[simp] theorem setArg1_ax1 (s : State) (v : Word) : (s.setArg1 v).ax1 = s.ax1 := rfl
@[simp] theorem setArg1_gear (s : State) (v : Word) : (s.setArg1 v).gear = s.gear := rfl
@[simp] theorem setArg1_gc (s : State) (v : Word) : (s.setArg1 v).gc = s.gc := rfl
@[simp] theorem setArg1_cal (s : State) (v : Word) : (s.setArg1 v).cal = s.cal := rfl
@[simp] theorem setArg1_seq (s : State) (v : Word) : (s.setArg1 v).seq = s.seq := rfl
@[simp] theorem setArg1_sc (s : State) (v : Word) : (s.setArg1 v).sc = s.sc := rfl
@[simp] theorem setArg1_srb (s : State) (v : Word) : (s.setArg1 v).srb = s.srb := rfl
@[simp] theorem setArg1_pin (s : State) (v : Word) : (s.setArg1 v).pin = s.pin := rfl
@[simp] theorem setArg1_dpadMap (s : State) (v : Word) : (s.setArg1 v).dpadMap = s.dpadMap := rfl
@[simp] theorem setArg1_env (s : State) (v : Word) : (s.setArg1 v).env = s.env := rfl

/-! `State.setRes` -/

@[simp] theorem setRes_arg0 (s : State) (v : Word) : (s.setRes v).arg0 = s.arg0 := rfl
@[simp] theorem setRes_arg1 (s : State) (v : Word) : (s.setRes v).arg1 = s.arg1 := rfl
@[simp] theorem setRes_res (s : State) (v : Word) : (s.setRes v).res = v := rfl
@[simp] theorem setRes_cfg (s : State) (v : Word) : (s.setRes v).cfg = s.cfg := rfl
@[simp] theorem setRes_flags (s : State) (v : Word) : (s.setRes v).flags = s.flags := rfl
@[simp] theorem setRes_conn (s : State) (v : Word) : (s.setRes v).conn = s.conn := rfl
@[simp] theorem setRes_ax0 (s : State) (v : Word) : (s.setRes v).ax0 = s.ax0 := rfl
@[simp] theorem setRes_ax1 (s : State) (v : Word) : (s.setRes v).ax1 = s.ax1 := rfl
@[simp] theorem setRes_gear (s : State) (v : Word) : (s.setRes v).gear = s.gear := rfl
@[simp] theorem setRes_gc (s : State) (v : Word) : (s.setRes v).gc = s.gc := rfl
@[simp] theorem setRes_cal (s : State) (v : Word) : (s.setRes v).cal = s.cal := rfl
@[simp] theorem setRes_seq (s : State) (v : Word) : (s.setRes v).seq = s.seq := rfl
@[simp] theorem setRes_sc (s : State) (v : Word) : (s.setRes v).sc = s.sc := rfl
@[simp] theorem setRes_srb (s : State) (v : Word) : (s.setRes v).srb = s.srb := rfl
@[simp] theorem setRes_pin (s : State) (v : Word) : (s.setRes v).pin = s.pin := rfl
@[simp] theorem setRes_dpadMap (s : State) (v : Word) : (s.setRes v).dpadMap = s.dpadMap := rfl
@[simp] theorem setRes_env (s : State) (v : Word) : (s.setRes v).env = s.env := rfl

/-! `State.setCfg` -/

@[simp] theorem setCfg_arg0 (s : State) (v : BitVec 11) : (s.setCfg v).arg0 = s.arg0 := rfl
@[simp] theorem setCfg_arg1 (s : State) (v : BitVec 11) : (s.setCfg v).arg1 = s.arg1 := rfl
@[simp] theorem setCfg_res (s : State) (v : BitVec 11) : (s.setCfg v).res = s.res := rfl
@[simp] theorem setCfg_cfg (s : State) (v : BitVec 11) : (s.setCfg v).cfg = v := rfl
@[simp] theorem setCfg_flags (s : State) (v : BitVec 11) : (s.setCfg v).flags = s.flags := rfl
@[simp] theorem setCfg_conn (s : State) (v : BitVec 11) : (s.setCfg v).conn = s.conn := rfl
@[simp] theorem setCfg_ax0 (s : State) (v : BitVec 11) : (s.setCfg v).ax0 = s.ax0 := rfl
@[simp] theorem setCfg_ax1 (s : State) (v : BitVec 11) : (s.setCfg v).ax1 = s.ax1 := rfl
@[simp] theorem setCfg_gear (s : State) (v : BitVec 11) : (s.setCfg v).gear = s.gear := rfl
@[simp] theorem setCfg_gc (s : State) (v : BitVec 11) : (s.setCfg v).gc = s.gc := rfl
@[simp] theorem setCfg_cal (s : State) (v : BitVec 11) : (s.setCfg v).cal = s.cal := rfl
@[simp] theorem setCfg_seq (s : State) (v : BitVec 11) : (s.setCfg v).seq = s.seq := rfl
@[simp] theorem setCfg_sc (s : State) (v : BitVec 11) : (s.setCfg v).sc = s.sc := rfl
@[simp] theorem setCfg_srb (s : State) (v : BitVec 11) : (s.setCfg v).srb = s.srb := rfl
@[simp] theorem setCfg_pin (s : State) (v : BitVec 11) : (s.setCfg v).pin = s.pin := rfl
@[simp] theorem setCfg_dpadMap (s : State) (v : BitVec 11) : (s.setCfg v).dpadMap = s.dpadMap := rfl
@[simp] theorem setCfg_env (s : State) (v : BitVec 11) : (s.setCfg v).env = s.env := rfl

/-! `State.setFlags` -/

@[simp] theorem setFlags_arg0 (s : State) (v : Flags) : (s.setFlags v).arg0 = s.arg0 := rfl
@[simp] theorem setFlags_arg1 (s : State) (v : Flags) : (s.setFlags v).arg1 = s.arg1 := rfl
@[simp] theorem setFlags_res (s : State) (v : Flags) : (s.setFlags v).res = s.res := rfl
@[simp] theorem setFlags_cfg (s : State) (v : Flags) : (s.setFlags v).cfg = s.cfg := rfl
@[simp] theorem setFlags_flags (s : State) (v : Flags) : (s.setFlags v).flags = v := rfl
@[simp] theorem setFlags_conn (s : State) (v : Flags) : (s.setFlags v).conn = s.conn := rfl
@[simp] theorem setFlags_ax0 (s : State) (v : Flags) : (s.setFlags v).ax0 = s.ax0 := rfl
@[simp] theorem setFlags_ax1 (s : State) (v : Flags) : (s.setFlags v).ax1 = s.ax1 := rfl
@[simp] theorem setFlags_gear (s : State) (v : Flags) : (s.setFlags v).gear = s.gear := rfl
@[simp] theorem setFlags_gc (s : State) (v : Flags) : (s.setFlags v).gc = s.gc := rfl
@[simp] theorem setFlags_cal (s : State) (v : Flags) : (s.setFlags v).cal = s.cal := rfl
@[simp] theorem setFlags_seq (s : State) (v : Flags) : (s.setFlags v).seq = s.seq := rfl
@[simp] theorem setFlags_sc (s : State) (v : Flags) : (s.setFlags v).sc = s.sc := rfl
@[simp] theorem setFlags_srb (s : State) (v : Flags) : (s.setFlags v).srb = s.srb := rfl
@[simp] theorem setFlags_pin (s : State) (v : Flags) : (s.setFlags v).pin = s.pin := rfl
@[simp] theorem setFlags_dpadMap (s : State) (v : Flags) : (s.setFlags v).dpadMap = s.dpadMap := rfl
@[simp] theorem setFlags_env (s : State) (v : Flags) : (s.setFlags v).env = s.env := rfl

/-! `State.setConn` -/

@[simp] theorem setConn_arg0 (s : State) (v : Conn) : (s.setConn v).arg0 = s.arg0 := rfl
@[simp] theorem setConn_arg1 (s : State) (v : Conn) : (s.setConn v).arg1 = s.arg1 := rfl
@[simp] theorem setConn_res (s : State) (v : Conn) : (s.setConn v).res = s.res := rfl
@[simp] theorem setConn_cfg (s : State) (v : Conn) : (s.setConn v).cfg = s.cfg := rfl
@[simp] theorem setConn_flags (s : State) (v : Conn) : (s.setConn v).flags = s.flags := rfl
@[simp] theorem setConn_conn (s : State) (v : Conn) : (s.setConn v).conn = v := rfl
@[simp] theorem setConn_ax0 (s : State) (v : Conn) : (s.setConn v).ax0 = s.ax0 := rfl
@[simp] theorem setConn_ax1 (s : State) (v : Conn) : (s.setConn v).ax1 = s.ax1 := rfl
@[simp] theorem setConn_gear (s : State) (v : Conn) : (s.setConn v).gear = s.gear := rfl
@[simp] theorem setConn_gc (s : State) (v : Conn) : (s.setConn v).gc = s.gc := rfl
@[simp] theorem setConn_cal (s : State) (v : Conn) : (s.setConn v).cal = s.cal := rfl
@[simp] theorem setConn_seq (s : State) (v : Conn) : (s.setConn v).seq = s.seq := rfl
@[simp] theorem setConn_sc (s : State) (v : Conn) : (s.setConn v).sc = s.sc := rfl
@[simp] theorem setConn_srb (s : State) (v : Conn) : (s.setConn v).srb = s.srb := rfl
@[simp] theorem setConn_pin (s : State) (v : Conn) : (s.setConn v).pin = s.pin := rfl
@[simp] theorem setConn_dpadMap (s : State) (v : Conn) : (s.setConn v).dpadMap = s.dpadMap := rfl
@[simp] theorem setConn_env (s : State) (v : Conn) : (s.setConn v).env = s.env := rfl

/-! `State.setAx0` -/

@[simp] theorem setAx0_arg0 (s : State) (v : AxisState) : (s.setAx0 v).arg0 = s.arg0 := rfl
@[simp] theorem setAx0_arg1 (s : State) (v : AxisState) : (s.setAx0 v).arg1 = s.arg1 := rfl
@[simp] theorem setAx0_res (s : State) (v : AxisState) : (s.setAx0 v).res = s.res := rfl
@[simp] theorem setAx0_cfg (s : State) (v : AxisState) : (s.setAx0 v).cfg = s.cfg := rfl
@[simp] theorem setAx0_flags (s : State) (v : AxisState) : (s.setAx0 v).flags = s.flags := rfl
@[simp] theorem setAx0_conn (s : State) (v : AxisState) : (s.setAx0 v).conn = s.conn := rfl
@[simp] theorem setAx0_ax0 (s : State) (v : AxisState) : (s.setAx0 v).ax0 = v := rfl
@[simp] theorem setAx0_ax1 (s : State) (v : AxisState) : (s.setAx0 v).ax1 = s.ax1 := rfl
@[simp] theorem setAx0_gear (s : State) (v : AxisState) : (s.setAx0 v).gear = s.gear := rfl
@[simp] theorem setAx0_gc (s : State) (v : AxisState) : (s.setAx0 v).gc = s.gc := rfl
@[simp] theorem setAx0_cal (s : State) (v : AxisState) : (s.setAx0 v).cal = s.cal := rfl
@[simp] theorem setAx0_seq (s : State) (v : AxisState) : (s.setAx0 v).seq = s.seq := rfl
@[simp] theorem setAx0_sc (s : State) (v : AxisState) : (s.setAx0 v).sc = s.sc := rfl
@[simp] theorem setAx0_srb (s : State) (v : AxisState) : (s.setAx0 v).srb = s.srb := rfl
@[simp] theorem setAx0_pin (s : State) (v : AxisState) : (s.setAx0 v).pin = s.pin := rfl
@[simp] theorem setAx0_dpadMap (s : State) (v : AxisState) : (s.setAx0 v).dpadMap = s.dpadMap := rfl
@[simp] theorem setAx0_env (s : State) (v : AxisState) : (s.setAx0 v).env = s.env := rfl

/-! `State.setAx1` -/

@[simp] theorem setAx1_arg0 (s : State) (v : AxisState) : (s.setAx1 v).arg0 = s.arg0 := rfl
@[simp] theorem setAx1_arg1 (s : State) (v : AxisState) : (s.setAx1 v).arg1 = s.arg1 := rfl
@[simp] theorem setAx1_res (s : State) (v : AxisState) : (s.setAx1 v).res = s.res := rfl
@[simp] theorem setAx1_cfg (s : State) (v : AxisState) : (s.setAx1 v).cfg = s.cfg := rfl
@[simp] theorem setAx1_flags (s : State) (v : AxisState) : (s.setAx1 v).flags = s.flags := rfl
@[simp] theorem setAx1_conn (s : State) (v : AxisState) : (s.setAx1 v).conn = s.conn := rfl
@[simp] theorem setAx1_ax0 (s : State) (v : AxisState) : (s.setAx1 v).ax0 = s.ax0 := rfl
@[simp] theorem setAx1_ax1 (s : State) (v : AxisState) : (s.setAx1 v).ax1 = v := rfl
@[simp] theorem setAx1_gear (s : State) (v : AxisState) : (s.setAx1 v).gear = s.gear := rfl
@[simp] theorem setAx1_gc (s : State) (v : AxisState) : (s.setAx1 v).gc = s.gc := rfl
@[simp] theorem setAx1_cal (s : State) (v : AxisState) : (s.setAx1 v).cal = s.cal := rfl
@[simp] theorem setAx1_seq (s : State) (v : AxisState) : (s.setAx1 v).seq = s.seq := rfl
@[simp] theorem setAx1_sc (s : State) (v : AxisState) : (s.setAx1 v).sc = s.sc := rfl
@[simp] theorem setAx1_srb (s : State) (v : AxisState) : (s.setAx1 v).srb = s.srb := rfl
@[simp] theorem setAx1_pin (s : State) (v : AxisState) : (s.setAx1 v).pin = s.pin := rfl
@[simp] theorem setAx1_dpadMap (s : State) (v : AxisState) : (s.setAx1 v).dpadMap = s.dpadMap := rfl
@[simp] theorem setAx1_env (s : State) (v : AxisState) : (s.setAx1 v).env = s.env := rfl

/-! `State.setGear` -/

@[simp] theorem setGear_arg0 (s : State) (v : Gear) : (s.setGear v).arg0 = s.arg0 := rfl
@[simp] theorem setGear_arg1 (s : State) (v : Gear) : (s.setGear v).arg1 = s.arg1 := rfl
@[simp] theorem setGear_res (s : State) (v : Gear) : (s.setGear v).res = s.res := rfl
@[simp] theorem setGear_cfg (s : State) (v : Gear) : (s.setGear v).cfg = s.cfg := rfl
@[simp] theorem setGear_flags (s : State) (v : Gear) : (s.setGear v).flags = s.flags := rfl
@[simp] theorem setGear_conn (s : State) (v : Gear) : (s.setGear v).conn = s.conn := rfl
@[simp] theorem setGear_ax0 (s : State) (v : Gear) : (s.setGear v).ax0 = s.ax0 := rfl
@[simp] theorem setGear_ax1 (s : State) (v : Gear) : (s.setGear v).ax1 = s.ax1 := rfl
@[simp] theorem setGear_gear (s : State) (v : Gear) : (s.setGear v).gear = v := rfl
@[simp] theorem setGear_gc (s : State) (v : Gear) : (s.setGear v).gc = s.gc := rfl
@[simp] theorem setGear_cal (s : State) (v : Gear) : (s.setGear v).cal = s.cal := rfl
@[simp] theorem setGear_seq (s : State) (v : Gear) : (s.setGear v).seq = s.seq := rfl
@[simp] theorem setGear_sc (s : State) (v : Gear) : (s.setGear v).sc = s.sc := rfl
@[simp] theorem setGear_srb (s : State) (v : Gear) : (s.setGear v).srb = s.srb := rfl
@[simp] theorem setGear_pin (s : State) (v : Gear) : (s.setGear v).pin = s.pin := rfl
@[simp] theorem setGear_dpadMap (s : State) (v : Gear) : (s.setGear v).dpadMap = s.dpadMap := rfl
@[simp] theorem setGear_env (s : State) (v : Gear) : (s.setGear v).env = s.env := rfl

/-! `State.setGc` -/

@[simp] theorem setGc_arg0 (s : State) (v : GearCal) : (s.setGc v).arg0 = s.arg0 := rfl
@[simp] theorem setGc_arg1 (s : State) (v : GearCal) : (s.setGc v).arg1 = s.arg1 := rfl
@[simp] theorem setGc_res (s : State) (v : GearCal) : (s.setGc v).res = s.res := rfl
@[simp] theorem setGc_cfg (s : State) (v : GearCal) : (s.setGc v).cfg = s.cfg := rfl
@[simp] theorem setGc_flags (s : State) (v : GearCal) : (s.setGc v).flags = s.flags := rfl
@[simp] theorem setGc_conn (s : State) (v : GearCal) : (s.setGc v).conn = s.conn := rfl
@[simp] theorem setGc_ax0 (s : State) (v : GearCal) : (s.setGc v).ax0 = s.ax0 := rfl
@[simp] theorem setGc_ax1 (s : State) (v : GearCal) : (s.setGc v).ax1 = s.ax1 := rfl
@[simp] theorem setGc_gear (s : State) (v : GearCal) : (s.setGc v).gear = s.gear := rfl
@[simp] theorem setGc_gc (s : State) (v : GearCal) : (s.setGc v).gc = v := rfl
@[simp] theorem setGc_cal (s : State) (v : GearCal) : (s.setGc v).cal = s.cal := rfl
@[simp] theorem setGc_seq (s : State) (v : GearCal) : (s.setGc v).seq = s.seq := rfl
@[simp] theorem setGc_sc (s : State) (v : GearCal) : (s.setGc v).sc = s.sc := rfl
@[simp] theorem setGc_srb (s : State) (v : GearCal) : (s.setGc v).srb = s.srb := rfl
@[simp] theorem setGc_pin (s : State) (v : GearCal) : (s.setGc v).pin = s.pin := rfl
@[simp] theorem setGc_dpadMap (s : State) (v : GearCal) : (s.setGc v).dpadMap = s.dpadMap := rfl
@[simp] theorem setGc_env (s : State) (v : GearCal) : (s.setGc v).env = s.env := rfl

/-! `State.setCal` -/

@[simp] theorem setCal_arg0 (s : State) (v : CalInputs) : (s.setCal v).arg0 = s.arg0 := rfl
@[simp] theorem setCal_arg1 (s : State) (v : CalInputs) : (s.setCal v).arg1 = s.arg1 := rfl
@[simp] theorem setCal_res (s : State) (v : CalInputs) : (s.setCal v).res = s.res := rfl
@[simp] theorem setCal_cfg (s : State) (v : CalInputs) : (s.setCal v).cfg = s.cfg := rfl
@[simp] theorem setCal_flags (s : State) (v : CalInputs) : (s.setCal v).flags = s.flags := rfl
@[simp] theorem setCal_conn (s : State) (v : CalInputs) : (s.setCal v).conn = s.conn := rfl
@[simp] theorem setCal_ax0 (s : State) (v : CalInputs) : (s.setCal v).ax0 = s.ax0 := rfl
@[simp] theorem setCal_ax1 (s : State) (v : CalInputs) : (s.setCal v).ax1 = s.ax1 := rfl
@[simp] theorem setCal_gear (s : State) (v : CalInputs) : (s.setCal v).gear = s.gear := rfl
@[simp] theorem setCal_gc (s : State) (v : CalInputs) : (s.setCal v).gc = s.gc := rfl
@[simp] theorem setCal_cal (s : State) (v : CalInputs) : (s.setCal v).cal = v := rfl
@[simp] theorem setCal_seq (s : State) (v : CalInputs) : (s.setCal v).seq = s.seq := rfl
@[simp] theorem setCal_sc (s : State) (v : CalInputs) : (s.setCal v).sc = s.sc := rfl
@[simp] theorem setCal_srb (s : State) (v : CalInputs) : (s.setCal v).srb = s.srb := rfl
@[simp] theorem setCal_pin (s : State) (v : CalInputs) : (s.setCal v).pin = s.pin := rfl
@[simp] theorem setCal_dpadMap (s : State) (v : CalInputs) : (s.setCal v).dpadMap = s.dpadMap := rfl
@[simp] theorem setCal_env (s : State) (v : CalInputs) : (s.setCal v).env = s.env := rfl

/-! `State.setSeq` -/

@[simp] theorem setSeq_arg0 (s : State) (v : Seq) : (s.setSeq v).arg0 = s.arg0 := rfl
@[simp] theorem setSeq_arg1 (s : State) (v : Seq) : (s.setSeq v).arg1 = s.arg1 := rfl
@[simp] theorem setSeq_res (s : State) (v : Seq) : (s.setSeq v).res = s.res := rfl
@[simp] theorem setSeq_cfg (s : State) (v : Seq) : (s.setSeq v).cfg = s.cfg := rfl
@[simp] theorem setSeq_flags (s : State) (v : Seq) : (s.setSeq v).flags = s.flags := rfl
@[simp] theorem setSeq_conn (s : State) (v : Seq) : (s.setSeq v).conn = s.conn := rfl
@[simp] theorem setSeq_ax0 (s : State) (v : Seq) : (s.setSeq v).ax0 = s.ax0 := rfl
@[simp] theorem setSeq_ax1 (s : State) (v : Seq) : (s.setSeq v).ax1 = s.ax1 := rfl
@[simp] theorem setSeq_gear (s : State) (v : Seq) : (s.setSeq v).gear = s.gear := rfl
@[simp] theorem setSeq_gc (s : State) (v : Seq) : (s.setSeq v).gc = s.gc := rfl
@[simp] theorem setSeq_cal (s : State) (v : Seq) : (s.setSeq v).cal = s.cal := rfl
@[simp] theorem setSeq_seq (s : State) (v : Seq) : (s.setSeq v).seq = v := rfl
@[simp] theorem setSeq_sc (s : State) (v : Seq) : (s.setSeq v).sc = s.sc := rfl
@[simp] theorem setSeq_srb (s : State) (v : Seq) : (s.setSeq v).srb = s.srb := rfl
@[simp] theorem setSeq_pin (s : State) (v : Seq) : (s.setSeq v).pin = s.pin := rfl
@[simp] theorem setSeq_dpadMap (s : State) (v : Seq) : (s.setSeq v).dpadMap = s.dpadMap := rfl
@[simp] theorem setSeq_env (s : State) (v : Seq) : (s.setSeq v).env = s.env := rfl

/-! `State.setSc` -/

@[simp] theorem setSc_arg0 (s : State) (v : SeqCal) : (s.setSc v).arg0 = s.arg0 := rfl
@[simp] theorem setSc_arg1 (s : State) (v : SeqCal) : (s.setSc v).arg1 = s.arg1 := rfl
@[simp] theorem setSc_res (s : State) (v : SeqCal) : (s.setSc v).res = s.res := rfl
@[simp] theorem setSc_cfg (s : State) (v : SeqCal) : (s.setSc v).cfg = s.cfg := rfl
@[simp] theorem setSc_flags (s : State) (v : SeqCal) : (s.setSc v).flags = s.flags := rfl
@[simp] theorem setSc_conn (s : State) (v : SeqCal) : (s.setSc v).conn = s.conn := rfl
@[simp] theorem setSc_ax0 (s : State) (v : SeqCal) : (s.setSc v).ax0 = s.ax0 := rfl
@[simp] theorem setSc_ax1 (s : State) (v : SeqCal) : (s.setSc v).ax1 = s.ax1 := rfl
@[simp] theorem setSc_gear (s : State) (v : SeqCal) : (s.setSc v).gear = s.gear := rfl
@[simp] theorem setSc_gc (s : State) (v : SeqCal) : (s.setSc v).gc = s.gc := rfl
@[simp] theorem setSc_cal (s : State) (v : SeqCal) : (s.setSc v).cal = s.cal := rfl
@[simp] theorem setSc_seq (s : State) (v : SeqCal) : (s.setSc v).seq = s.seq := rfl
@[simp] theorem setSc_sc (s : State) (v : SeqCal) : (s.setSc v).sc = v := rfl
@[simp] theorem setSc_srb (s : State) (v : SeqCal) : (s.setSc v).srb = s.srb := rfl
@[simp] theorem setSc_pin (s : State) (v : SeqCal) : (s.setSc v).pin = s.pin := rfl
@[simp] theorem setSc_dpadMap (s : State) (v : SeqCal) : (s.setSc v).dpadMap = s.dpadMap := rfl
@[simp] theorem setSc_env (s : State) (v : SeqCal) : (s.setSc v).env = s.env := rfl

/-! `State.setSrb` -/

@[simp] theorem setSrb_arg0 (s : State) (v : Srb) : (s.setSrb v).arg0 = s.arg0 := rfl
@[simp] theorem setSrb_arg1 (s : State) (v : Srb) : (s.setSrb v).arg1 = s.arg1 := rfl
@[simp] theorem setSrb_res (s : State) (v : Srb) : (s.setSrb v).res = s.res := rfl
@[simp] theorem setSrb_cfg (s : State) (v : Srb) : (s.setSrb v).cfg = s.cfg := rfl
@[simp] theorem setSrb_flags (s : State) (v : Srb) : (s.setSrb v).flags = s.flags := rfl
@[simp] theorem setSrb_conn (s : State) (v : Srb) : (s.setSrb v).conn = s.conn := rfl
@[simp] theorem setSrb_ax0 (s : State) (v : Srb) : (s.setSrb v).ax0 = s.ax0 := rfl
@[simp] theorem setSrb_ax1 (s : State) (v : Srb) : (s.setSrb v).ax1 = s.ax1 := rfl
@[simp] theorem setSrb_gear (s : State) (v : Srb) : (s.setSrb v).gear = s.gear := rfl
@[simp] theorem setSrb_gc (s : State) (v : Srb) : (s.setSrb v).gc = s.gc := rfl
@[simp] theorem setSrb_cal (s : State) (v : Srb) : (s.setSrb v).cal = s.cal := rfl
@[simp] theorem setSrb_seq (s : State) (v : Srb) : (s.setSrb v).seq = s.seq := rfl
@[simp] theorem setSrb_sc (s : State) (v : Srb) : (s.setSrb v).sc = s.sc := rfl
@[simp] theorem setSrb_srb (s : State) (v : Srb) : (s.setSrb v).srb = v := rfl
@[simp] theorem setSrb_pin (s : State) (v : Srb) : (s.setSrb v).pin = s.pin := rfl
@[simp] theorem setSrb_dpadMap (s : State) (v : Srb) : (s.setSrb v).dpadMap = s.dpadMap := rfl
@[simp] theorem setSrb_env (s : State) (v : Srb) : (s.setSrb v).env = s.env := rfl

/-! `State.setPin` -/

@[simp] theorem setPin_arg0 (s : State) (v : Pins) : (s.setPin v).arg0 = s.arg0 := rfl
@[simp] theorem setPin_arg1 (s : State) (v : Pins) : (s.setPin v).arg1 = s.arg1 := rfl
@[simp] theorem setPin_res (s : State) (v : Pins) : (s.setPin v).res = s.res := rfl
@[simp] theorem setPin_cfg (s : State) (v : Pins) : (s.setPin v).cfg = s.cfg := rfl
@[simp] theorem setPin_flags (s : State) (v : Pins) : (s.setPin v).flags = s.flags := rfl
@[simp] theorem setPin_conn (s : State) (v : Pins) : (s.setPin v).conn = s.conn := rfl
@[simp] theorem setPin_ax0 (s : State) (v : Pins) : (s.setPin v).ax0 = s.ax0 := rfl
@[simp] theorem setPin_ax1 (s : State) (v : Pins) : (s.setPin v).ax1 = s.ax1 := rfl
@[simp] theorem setPin_gear (s : State) (v : Pins) : (s.setPin v).gear = s.gear := rfl
@[simp] theorem setPin_gc (s : State) (v : Pins) : (s.setPin v).gc = s.gc := rfl
@[simp] theorem setPin_cal (s : State) (v : Pins) : (s.setPin v).cal = s.cal := rfl
@[simp] theorem setPin_seq (s : State) (v : Pins) : (s.setPin v).seq = s.seq := rfl
@[simp] theorem setPin_sc (s : State) (v : Pins) : (s.setPin v).sc = s.sc := rfl
@[simp] theorem setPin_srb (s : State) (v : Pins) : (s.setPin v).srb = s.srb := rfl
@[simp] theorem setPin_pin (s : State) (v : Pins) : (s.setPin v).pin = v := rfl
@[simp] theorem setPin_dpadMap (s : State) (v : Pins) : (s.setPin v).dpadMap = s.dpadMap := rfl
@[simp] theorem setPin_env (s : State) (v : Pins) : (s.setPin v).env = s.env := rfl

/-! `State.setDpadMap` -/

@[simp] theorem setDpadMap_arg0 (s : State) (v : Half) : (s.setDpadMap v).arg0 = s.arg0 := rfl
@[simp] theorem setDpadMap_arg1 (s : State) (v : Half) : (s.setDpadMap v).arg1 = s.arg1 := rfl
@[simp] theorem setDpadMap_res (s : State) (v : Half) : (s.setDpadMap v).res = s.res := rfl
@[simp] theorem setDpadMap_cfg (s : State) (v : Half) : (s.setDpadMap v).cfg = s.cfg := rfl
@[simp] theorem setDpadMap_flags (s : State) (v : Half) : (s.setDpadMap v).flags = s.flags := rfl
@[simp] theorem setDpadMap_conn (s : State) (v : Half) : (s.setDpadMap v).conn = s.conn := rfl
@[simp] theorem setDpadMap_ax0 (s : State) (v : Half) : (s.setDpadMap v).ax0 = s.ax0 := rfl
@[simp] theorem setDpadMap_ax1 (s : State) (v : Half) : (s.setDpadMap v).ax1 = s.ax1 := rfl
@[simp] theorem setDpadMap_gear (s : State) (v : Half) : (s.setDpadMap v).gear = s.gear := rfl
@[simp] theorem setDpadMap_gc (s : State) (v : Half) : (s.setDpadMap v).gc = s.gc := rfl
@[simp] theorem setDpadMap_cal (s : State) (v : Half) : (s.setDpadMap v).cal = s.cal := rfl
@[simp] theorem setDpadMap_seq (s : State) (v : Half) : (s.setDpadMap v).seq = s.seq := rfl
@[simp] theorem setDpadMap_sc (s : State) (v : Half) : (s.setDpadMap v).sc = s.sc := rfl
@[simp] theorem setDpadMap_srb (s : State) (v : Half) : (s.setDpadMap v).srb = s.srb := rfl
@[simp] theorem setDpadMap_pin (s : State) (v : Half) : (s.setDpadMap v).pin = s.pin := rfl
@[simp] theorem setDpadMap_dpadMap (s : State) (v : Half) : (s.setDpadMap v).dpadMap = v := rfl
@[simp] theorem setDpadMap_env (s : State) (v : Half) : (s.setDpadMap v).env = s.env := rfl

/-! `State.setEnv` -/

@[simp] theorem setEnv_arg0 (s : State) (v : Env) : (s.setEnv v).arg0 = s.arg0 := rfl
@[simp] theorem setEnv_arg1 (s : State) (v : Env) : (s.setEnv v).arg1 = s.arg1 := rfl
@[simp] theorem setEnv_res (s : State) (v : Env) : (s.setEnv v).res = s.res := rfl
@[simp] theorem setEnv_cfg (s : State) (v : Env) : (s.setEnv v).cfg = s.cfg := rfl
@[simp] theorem setEnv_flags (s : State) (v : Env) : (s.setEnv v).flags = s.flags := rfl
@[simp] theorem setEnv_conn (s : State) (v : Env) : (s.setEnv v).conn = s.conn := rfl
@[simp] theorem setEnv_ax0 (s : State) (v : Env) : (s.setEnv v).ax0 = s.ax0 := rfl
@[simp] theorem setEnv_ax1 (s : State) (v : Env) : (s.setEnv v).ax1 = s.ax1 := rfl
@[simp] theorem setEnv_gear (s : State) (v : Env) : (s.setEnv v).gear = s.gear := rfl
@[simp] theorem setEnv_gc (s : State) (v : Env) : (s.setEnv v).gc = s.gc := rfl
@[simp] theorem setEnv_cal (s : State) (v : Env) : (s.setEnv v).cal = s.cal := rfl
@[simp] theorem setEnv_seq (s : State) (v : Env) : (s.setEnv v).seq = s.seq := rfl
@[simp] theorem setEnv_sc (s : State) (v : Env) : (s.setEnv v).sc = s.sc := rfl
@[simp] theorem setEnv_srb (s : State) (v : Env) : (s.setEnv v).srb = s.srb := rfl
@[simp] theorem setEnv_pin (s : State) (v : Env) : (s.setEnv v).pin = s.pin := rfl
@[simp] theorem setEnv_dpadMap (s : State) (v : Env) : (s.setEnv v).dpadMap = s.dpadMap := rfl
@[simp] theorem setEnv_env (s : State) (v : Env) : (s.setEnv v).env = v := rfl

end Sys2Proof.Machine
end

