-- ==== Sys2Proof/Laws/Ops.lean ====
section
/-! SUPPORT. What each shared operation can do, once: the feeds, the pins, the axis, the gear, the tri-state, the bus, and
the step. -/

namespace Sys2Proof.Machine

/-! Feeds. -/

@[simp] theorem Feed.peek_cons {α : Type} (free : Nat → α) (v : α) (vs : List α) (n : Nat) :
    (Feed.mk (v :: vs) n).peek free = v := rfl

@[simp] theorem Feed.peek_nil {α : Type} (free : Nat → α) (n : Nat) : (Feed.mk [] n).peek free = free n := rfl

@[simp] theorem Feed.advance_mk {α : Type} (vs : List α) (n : Nat) : (Feed.mk vs n).advance = ⟨vs.tail, n + 1⟩ := rfl

theorem Feed.peek_eq_nth_zero {α : Type} (free : Nat → α) (f : Feed α) : f.peek free = f.nth free 0 := by
  cases f with
  | mk given taken => cases given <;> rfl

theorem Feed.nth_advance {α : Type} (free : Nat → α) (f : Feed α) (i : Nat) :
    f.advance.nth free i = f.nth free (i + 1) := by
  cases f with
  | mk given taken =>
    cases given <;> simp [Feed.advance, Feed.nth, Nat.add_comm, Nat.add_left_comm]

theorem Feed.after_advance {α : Type} (f : Feed α) (n : Nat) : f.advance.after n = f.after (n + 1) := by
  cases f with
  | mk given taken =>
    cases given <;> simp [Feed.advance, Feed.after, Nat.add_comm, Nat.add_left_comm]

/-! Samples and pins: each changes only `env`, or `env` and `pin`. -/

theorem takeDetIn_eq (s : State) : s.takeDetIn = s.setEnv { s.env with detIn := s.env.detIn.advance } := rfl

theorem takeAin_eq (s : State) (a : Axis) : ∃ e, s.takeAin a = s.setEnv e ∧ e.moves = s.env.moves ∧ e.rstN = s.env.rstN ∧
    e.rdata = s.env.rdata ∧ e.events = s.env.events ∧ e.clock = s.env.clock := by
  cases a <;> exact ⟨_, rfl, rfl, rfl, rfl, rfl, rfl⟩

theorem takeRevIn_eq (s : State) : s.takeRevIn = s.setEnv { s.env with revIn := s.env.revIn.advance } := rfl

theorem takeSeqModeIn_eq (s : State) :
    s.takeSeqModeIn = s.setEnv { s.env with seqModeIn := s.env.seqModeIn.advance } := rfl

theorem takeNowMs_eq (s : State) : s.takeNowMs =
    s.setEnv { s.env with clock := s.env.clock + s.elapsedNext, elapsed := s.env.elapsed.advance } := rfl

theorem takeSrData_eq (s : State) : s.takeSrData =
    s.setEnv { s.env with events := s.env.events ++ [.sample s.srData], srData := s.env.srData.advance } := rfl

theorem writeLatch_eq (s : State) (v : Bool) : s.writeLatch v =
    (s.setPin { s.pin with latchO := v }).setEnv { s.env with events := s.env.events ++ [.latch v] } := rfl

theorem writeClock_eq (s : State) (v : Bool) : s.writeClock v =
    (s.setPin { s.pin with clockO := v }).setEnv { s.env with events := s.env.events ++ [.clock v] } := rfl

theorem writeLed_eq (s : State) (v : Bool) : s.writeLed v =
    (s.setPin { s.pin with ledO := v }).setEnv { s.env with events := s.env.events ++ [.led v] } := rfl

theorem enableBus_eq (s : State) (e : Bool) : s.enableBus e =
    (s.setPin { s.pin with busOe := e }).setEnv { s.env with events := s.env.events ++ [.busEnable e] } := rfl

theorem enableLed_eq (s : State) (e : Bool) : s.enableLed e =
    (s.setPin { s.pin with ledOe := e }).setEnv { s.env with events := s.env.events ++ [.ledEnable e] } := rfl

@[simp] theorem hold_eq (s : State) : s.hold = s := rfl

/-! Axes. -/

@[simp] theorem setAx_ax_self (s : State) (a : Axis) (v : AxisState) : (s.setAx a v).ax a = v := by cases a <;> rfl

theorem setAx_ax_other (s : State) {a b : Axis} (v : AxisState) (h : b ≠ a) : (s.setAx a v).ax b = s.ax b := by
  cases a <;> cases b <;> first | rfl | exact absurd rfl h

/-- `setAx` changes one of the two axes and nothing else. -/
theorem setAx_eq (s : State) (a : Axis) (v : AxisState) :
    (a = .x ∧ s.setAx a v = s.setAx0 v) ∨ (a = .y ∧ s.setAx a v = s.setAx1 v) := by
  cases a
  · exact .inl ⟨rfl, rfl⟩
  · exact .inr ⟨rfl, rfl⟩

/-- The three cases of the remap (R143). -/
theorem remap_cases (c : AxisState) (v oMin oMax : Int) :
    (c.reflected v ≤ c.lo ∧ c.remap v oMin oMax = oMin) ∨
    (c.lo < c.reflected v ∧ c.hi ≤ c.reflected v ∧ c.remap v oMin oMax = oMax) ∨
    (c.lo < c.reflected v ∧ c.reflected v < c.hi ∧
      c.remap v oMin oMax = oMin + tdiv ((c.reflected v - c.lo) * (oMax - oMin)) (c.hi - c.lo)) := by
  unfold AxisState.remap
  split
  · exact .inl ⟨‹_›, rfl⟩
  · split
    · exact .inr (.inl ⟨by omega, by omega, rfl⟩)
    · exact .inr (.inr ⟨by omega, by omega, rfl⟩)

/-! The connection monitor. -/

/-- What a poll does to the monitor, branch (a) apart (R122). -/
theorem polled_cases (c : Conn) (lvl : Bool) (now : Word) :
    (lvl ≠ c.level ∧ lvl = true ∧ c.polled lvl now = { c with level := true, lastChange := now, state := .plugIn }) ∨
    (lvl ≠ c.level ∧ lvl = false ∧ c.polled lvl now = { c with level := false, lastChange := now, state := .unplug }) ∨
    (lvl = c.level ∧ lvl = true ∧ c.stable ≤ now - c.lastChange ∧ c.polled lvl now = { c with state := .connected }) ∨
    (lvl = c.level ∧ lvl = true ∧ now - c.lastChange < c.stable ∧ c.polled lvl now = c) ∨
    (lvl = c.level ∧ lvl = false ∧ c.state = .unplug ∧ c.polled lvl now = { c with state := .disconnected }) ∨
    (lvl = c.level ∧ lvl = false ∧ c.state ≠ .unplug ∧ c.polled lvl now = c) := by
  unfold Conn.polled elapsedSince
  by_cases hl : lvl = c.level
  · rw [if_neg (by simpa using hl)]
    cases lvl
    · by_cases hu : c.state = .unplug <;> simp [hl, hu]
    · by_cases he : c.stable ≤ now - c.lastChange
      · simp [hl, he]
      · simp [hl, he, BitVec.not_le.mp he]
  · rw [if_pos hl]
    cases lvl <;> simp [hl]

/-! The gear. -/

/-- `BoundGear` gives a gear in bounds, the one given or 0 (R180). -/
theorem boundGear_cases (s : State) (g : Int) :
    (s.minGear ≤ g ∧ g ≤ s.maxGear ∧ s.boundGear g = g) ∨ (¬ (s.minGear ≤ g ∧ g ≤ s.maxGear) ∧ s.boundGear g = 0) := by
  unfold State.boundGear
  split
  · rename_i h
    exact .inl ⟨h.1, h.2, rfl⟩
  · exact .inr ⟨‹_›, rfl⟩

/-- Neutral is always in bounds (R204). -/
@[simp] theorem boundGear_zero (s : State) : s.boundGear 0 = 0 := by
  rcases boundGear_cases s 0 with h | h
  · exact h.2.2
  · exact h.2

/-- `GearForce(0)` changes the gear only: the previous gear is the one before, the gear is neutral (R181). -/
theorem gearForce_zero (s : State) : s.gearForce 0 = s.setGear { s.gear with prev := s.gear.cur, cur := 0 } := by
  unfold State.gearForce
  rw [boundGear_zero]
  rfl

/-! The bus: `ShiftIn` changes only the pins and the world (R224). -/

theorem shiftBit_eq (s : State) : s.shiftBit =
    (s.setPin { s.pin with clockO := true }).setEnv { s.env with
      events := s.env.events ++ [.clock false, .sample s.srData, .clock true], srData := s.env.srData.advance } := by
  simp [State.shiftBit, State.hold, State.writeClock, State.takeSrData, State.emit, State.srData, State.setPin, State.setEnv]

/-- What `k` iterations of `ShiftIn` do to the state: the clock is left high if there was one, `k` samples are taken and the
three events of each are seen in order (R224). -/
theorem shiftLoop_state (k : Nat) (w : Half) (s : State) : (shiftLoop k w s).2 =
    (s.setPin { s.pin with clockO := if k = 0 then s.pin.clockO else true }).setEnv { s.env with
      events := s.env.events ++ ((List.range k).map (s.env.srData.nth Config.freeSrData)).flatMap
        (fun b => [.clock false, .sample b, .clock true])
      srData := s.env.srData.after k } := by
  induction k generalizing w s with
  | zero => simp [shiftLoop, State.setPin, State.setEnv, Feed.after]
  | succ k ih =>
    have h : (fun i => s.env.srData.advance.nth Config.freeSrData i) =
        (s.env.srData.nth Config.freeSrData) ∘ Nat.succ :=
      funext fun i => Feed.nth_advance _ _ i
    have h' : s.env.srData.advance.nth Config.freeSrData = (s.env.srData.nth Config.freeSrData) ∘ Nat.succ := h
    simp [shiftLoop, ih, shiftBit_eq, List.range_succ_eq_map, Feed.after_advance, State.setPin, State.setEnv,
      Feed.peek_eq_nth_zero, State.srData, h']

/-! The step. -/

/-- Everything a step can do: nothing, a reset drive, a read, a stored word, a command, a reserved word. -/
theorem step_cases {s t : State} (h : step s = .next t) :
    (s.env.moves = [] ∧ t = s) ∨
    (∃ l rest, s.env.moves = .rst l :: rest ∧ t = driveReset l s.popMove) ∨
    (∃ a rest, s.env.moves = .read a :: rest ∧ s.env.rstN = true ∧ t = hostRead a s.popMove) ∨
    (∃ a v rest, s.env.moves = .write a v :: rest ∧ s.env.rstN = true ∧ a ≠ cmdAddr ∧ t = s.popMove.writeWord a v) ∨
    (∃ v rest i, s.env.moves = .write cmdAddr v :: rest ∧ s.env.rstN = true ∧ decode (commandWord v) = .ok i ∧
      exec i s.popMove = .next t) ∨
    (∃ v rest e, s.env.moves = .write cmdAddr v :: rest ∧ s.env.rstN = true ∧ decode (commandWord v) = .error e ∧
      t = s.popMove) := by
  unfold step hostStep at h
  split at h
  · exact .inl ⟨‹_›, (by injection h with h; exact h.symm)⟩
  · rename_i m rest hm
    have hr : s.popMove.env.rstN = s.env.rstN := rfl
    cases m with
    | rst l => exact .inr (.inl ⟨l, rest, hm, by injection h with h; exact h.symm⟩)
    | read a =>
      simp only [makeMove, hr] at h
      split at h
      · exact .inr (.inr (.inl ⟨a, rest, hm, ‹_›, by injection h with h; exact h.symm⟩))
      · cases h
    | write a v =>
      simp only [makeMove, hr] at h
      split at h
      · unfold hostWrite at h
        split at h
        · rename_i hrst ha
          subst ha
          unfold runCommand at h
          split at h
          · rename_i i hd
            exact .inr (.inr (.inr (.inr (.inl ⟨v, rest, i, hm, hrst, hd, h⟩))))
          · rename_i e hd
            exact .inr (.inr (.inr (.inr (.inr ⟨v, rest, e, hm, hrst, hd, by injection h with h; exact h.symm⟩))))
        · rename_i hrst ha
          exact .inr (.inr (.inr (.inl ⟨a, v, rest, hm, hrst, ha, by injection h with h; exact h.symm⟩)))
      · cases h

end Sys2Proof.Machine
end

