-- ==== Sys2Proof/Laws/Commands.lean ====
section
/-! SUPPORT. Closed forms of the bus micro-operations, and what each command that changes more than a result touches. A proof
about every command cites these instead of unfolding the command. -/

namespace Sys2Proof.Machine

/-! The bus micro-operations (R222 to R224). -/

theorem busDrive_eq (s : State) : s.busDrive =
    ((s.setSrb { s.srb with driven := true }).setPin
      (if s.ledEn then { latchO := true, clockO := false, ledO := s.srb.ledCmd, ledOe := true, busOe := true }
        else { s.pin with latchO := true, clockO := false, busOe := true })).setEnv
      { s.env with events := s.env.events ++ driveEvents s.ledEn s.srb.ledCmd } := by
  cases h : s.cfg[5] <;>
    simp [State.busDrive, State.driveLed, State.ledEn, State.writeLatch, State.writeClock, State.writeLed, State.enableBus,
      State.enableLed, State.emit, State.setPin, State.setEnv, State.setSrb, State.setDriven, driveEvents, h]

theorem busRelease_eq (s : State) : s.busRelease =
    ((s.setSrb { s.srb with driven := false }).setPin { s.pin with busOe := false, ledOe := false }).setEnv
      { s.env with events := s.env.events ++ releaseEvents } := by
  simp [State.busRelease, State.enableBus, State.enableLed, State.emit, State.setPin, State.setEnv, State.setSrb,
    State.setDriven, releaseEvents]

theorem shiftIn_eq (s : State) : s.shiftIn =
    (s.setPin { s.pin with latchO := true, clockO := false }).setEnv { s.env with
      events := s.env.events ++ shiftEvents s.busSamples, srData := s.env.srData.after 16 } := by
  simp [State.shiftIn, shiftLoop_state, State.latchPulse, State.writeLatch, State.writeClock, State.emit, State.setPin,
    State.setEnv, shiftEvents, State.busSamples]

theorem writeBit_same (w : Half) (k : Nat) (b : Bool) : (writeBit w k b).getLsbD k = (decide (k < 16) && b) := by
  unfold writeBit
  cases b <;> simp

theorem writeBit_other (w : Half) {k j : Nat} (b : Bool) (h : j ≠ k) : (writeBit w k b).getLsbD j = w.getLsbD j := by
  have e : (1#16 <<< k).getLsbD j = false := by
    rw [BitVec.getLsbD_shiftLeft]
    simp
    omega
  have e' : (if b = true then 1#16 <<< k else 0).getLsbD j = false := by cases b <;> simp [e]
  unfold writeBit
  rw [BitVec.getLsbD_or, BitVec.getLsbD_and, BitVec.getLsbD_not, e, e']
  simp
  exact BitVec.lt_of_getLsbD

/-- The bits `k` iterations of `ShiftIn` store: the first sample in bit `k − 1`, the last in bit 0 (R224). -/
theorem shiftLoop_word (k : Nat) (hk : k ≤ 16) (w : Half) (s : State) (j : Nat) :
    (shiftLoop k w s).1.getLsbD j =
      if j < k then s.env.srData.nth Config.freeSrData (k - 1 - j) else w.getLsbD j := by
  induction k generalizing w s with
  | zero => simp [shiftLoop]
  | succ k ih =>
    have hfeed : s.shiftBit.env.srData = s.env.srData.advance := by
      rw [shiftBit_eq]
      rfl
    have hsample : (s.writeClock false).srData = s.env.srData.nth Config.freeSrData 0 := by
      rw [← Feed.peek_eq_nth_zero]
      rfl
    simp only [shiftLoop]
    rw [ih (by omega), hfeed, Feed.nth_advance, hsample]
    by_cases h1 : j < k
    · rw [if_pos h1, if_pos (by omega)]
      congr 1
      omega
    · by_cases h2 : j = k
      · subst h2
        rw [if_neg h1, if_pos (by omega), writeBit_same]
        simp
        omega
      · rw [if_neg h1, if_neg (by omega), writeBit_other _ _ h2]

/-! What the commands that change more than a result touch. -/

/-- The part of the world that no command changes: the host's moves, `rst_n`, the last answer (R80, R81). -/
def Env.sameHostSide (e e' : Env) : Prop := e.moves = e'.moves ∧ e.rstN = e'.rstN ∧ e.rdata = e'.rdata

theorem cpoll_touches (s : State) : ∃ c e, cpoll s = (s.setConn c).setEnv e ∧ c.stable = s.conn.stable ∧
    e.sameHostSide s.env ∧ e.events = s.env.events := by
  have hpolled : ∀ lvl now, (s.conn.polled lvl now).stable = s.conn.stable := by
    intro lvl now
    unfold Conn.polled
    split_ifs <;> rfl
  unfold cpoll State.afterDetLevel
  split
  · split
    · exact ⟨s.conn, _, rfl, rfl, ⟨rfl, rfl, rfl⟩, rfl⟩
    · exact ⟨s.conn, s.env, rfl, rfl, ⟨rfl, rfl, rfl⟩, rfl⟩
  · split
    · exact ⟨_, _, rfl, hpolled _ _, ⟨rfl, rfl, rfl⟩, rfl⟩
    · exact ⟨_, _, rfl, hpolled _ _, ⟨rfl, rfl, rfl⟩, rfl⟩

theorem sampled_touches (s : State) (a : Axis) : ∃ r e, s.sampled a = (s.setAx a { s.ax a with raw := r }).setEnv e ∧
    e.sameHostSide s.env ∧ e.events = s.env.events := by
  unfold State.sampled
  split
  · cases a <;> exact ⟨_, _, rfl, ⟨rfl, rfl, rfl⟩, rfl⟩
  · cases a <;> exact ⟨_, s.env, rfl, ⟨rfl, rfl, rfl⟩, rfl⟩

theorem aread_touches (s : State) (a : Axis) : ∃ r c e,
    aread a s = ((((s.setAx a { s.ax a with raw := r }).setEnv e).setFlags (s.flags.withAx a c)).resBool c) ∧
    e.sameHostSide s.env ∧ e.events = s.env.events := by
  obtain ⟨r, e, h, hs, he⟩ := sampled_touches s a
  exact ⟨r, s.readChanged a, e, by unfold aread; rw [h], hs, he⟩

theorem afterRevSnapshot_touches (s : State) : ∃ e, s.afterRevSnapshot = s.setEnv e ∧
    e.sameHostSide s.env ∧ e.events = s.env.events := by
  unfold State.afterRevSnapshot
  split
  · exact ⟨_, rfl, ⟨rfl, rfl, rfl⟩, rfl⟩
  · exact ⟨s.env, rfl, ⟨rfl, rfl, rfl⟩, rfl⟩

/-- The bounds that `choose` keeps: the previous gear when retained, else −1 to 6 (R33, R176). -/
theorem choose_range (c : GearCal) (rev : Bool) (p x y : Int) : -1 ≤ c.choose rev p x y ∧ c.choose rev p x y ≤ 6 := by
  have hrow : c.row y = 0 ∨ c.row y = 1 ∨ c.row y = 2 := by
    unfold GearCal.row
    split
    · simp
    · split <;> simp
  have hcol : c.column x = 0 ∨ c.column x = 2 ∨ c.column x = 4 := by
    unfold GearCal.column
    split
    · simp
    · split <;> simp
  unfold GearCal.choose
  split
  · rename_i h
    simp only [GearCal.retains, oddGear, evenGear, Bool.or_eq_true, Bool.and_eq_true, decide_eq_true_eq] at h
    omega
  · split
    · omega
    · simp only [interlock]
      split_ifs <;> omega

theorem boundGear_range (s : State) {g : Int} (h : -1 ≤ g ∧ g ≤ 6) : -1 ≤ s.boundGear g ∧ s.boundGear g ≤ 6 := by
  rcases boundGear_cases s g with h' | h' <;> omega

/-- A gear in −1 to 6 is held exactly by its 8 bits (R33). -/
theorem toGearVal_toInt {g : Int} (h : -1 ≤ g ∧ g ≤ 6) : (toGearVal g).toInt = g := by
  have hg : g = -1 ∨ g = 0 ∨ g = 1 ∨ g = 2 ∨ g = 3 ∨ g = 4 ∨ g = 5 ∨ g = 6 := by omega
  rcases hg with h | h | h | h | h | h | h | h <;> subst h <;> decide

/-- What GUPDATE touches, and the range of the gear it commits (R174 to R176). -/
theorem gupdate_touches (s : State) : ∃ rx ry g rev c0 c1 e,
    gupdate s = ((((((s.setAx0 { s.ax0 with raw := rx }).setAx1 { s.ax1 with raw := ry }).setGear
      { cur := toGearVal g, prev := s.gear.cur, rev := rev }).setFlags
        { s.flags with chgAx0 := c0, chgAx1 := c1, chgGear := gearChanged s.gear.cur.toInt g }).setEnv e).resBool
          (gearChanged s.gear.cur.toInt g)) ∧
    (-1 ≤ g ∧ g ≤ 6) ∧ (s.minGear ≤ g ∧ g ≤ s.maxGear) ∧ e.sameHostSide s.env ∧ e.events = s.env.events := by
  have zeroIn : s.minGear ≤ 0 ∧ 0 ≤ s.maxGear := by
    unfold State.minGear State.maxGear
    constructor
    · split <;> omega
    · omega
  cases hc : s.isConnected
  · have h : gupdate s = (gearIdle s).resBool (gearIdle s).flags.chgGear := by
      simp [gupdate, gearCycle, hc]
    exact ⟨s.gc.nrawX, s.gc.nrawY, 0, s.gear.rev, s.flags.chgAx0, s.flags.chgAx1, s.env, h, by omega, zeroIn,
      ⟨rfl, rfl, rfl⟩, rfl⟩
  · have h : gupdate s = (gearDecode s).resBool (gearDecode s).flags.chgGear := by
      simp [gupdate, gearCycle, hc]
    obtain ⟨rx, c0, e0, h0, hs0, he0⟩ := aread_touches s .x
    obtain ⟨ry, c1, e1, h1, hs1, he1⟩ := aread_touches (aread .x s) .y
    obtain ⟨e2, h2, hs2, he2⟩ := afterRevSnapshot_touches (aread .y (aread .x s))
    have hgear : (aread .y (aread .x s)).gear = s.gear := by rw [h1, h0]; rfl
    have hcfg : (aread .y (aread .x s)).cfg = s.cfg := by rw [h1, h0]; rfl
    refine ⟨rx, ry, s.boundGear ((aread .y (aread .x s)).gc.choose (aread .y (aread .x s)).revSnapshot s.gear.cur.toInt
      (aread .y (aread .x s)).ax0.norm (aread .y (aread .x s)).ax1.norm), (aread .y (aread .x s)).revSnapshot, c0, c1, e2,
      ?_, boundGear_range s (choose_range _ _ _ _ _), ?_, ?_, ?_⟩
    · have hb : ∀ g, (aread .y (aread .x s)).boundGear g = s.boundGear g := by
        intro g
        unfold State.boundGear State.minGear State.maxGear State.revEn
        rw [hcfg]
      rw [h]
      simp only [gearDecode, State.decodeGear, h2, hgear, hb]
      rw [h1, h0]
      rfl
    · rcases boundGear_cases s ((aread .y (aread .x s)).gc.choose (aread .y (aread .x s)).revSnapshot s.gear.cur.toInt
        (aread .y (aread .x s)).ax0.norm (aread .y (aread .x s)).ax1.norm) with h' | h'
      · rw [h'.2.2]
        exact ⟨h'.1, h'.2.1⟩
      · rw [h'.2]
        exact zeroIn
    · rw [h1, h0] at hs2
      rw [h0] at hs1
      exact ⟨hs2.1.trans (hs1.1.trans hs0.1), hs2.2.1.trans (hs1.2.1.trans hs0.2.1), hs2.2.2.trans (hs1.2.2.trans hs0.2.2)⟩
    · rw [h1, h0] at he2
      rw [h0] at he1
      exact he2.trans (he1.trans he0)

theorem seqNext_range (c : SeqCal) (old : BitVec 2) (y : Int) : c.next old y = 0 ∨ c.next old y = 1 ∨ c.next old y = -1 := by
  unfold SeqCal.next
  split_ifs <;> simp

/-- What SSTEP touches: the gear only in sequential mode, and then it is neutral (R203, R204). -/
theorem sstep_touches (s : State) : ∃ g e,
    sstep s = (((((s.setGear g).setEnv e).setSeq { state := s.seqNext, active := s.seqMode }).setFlags s.seqFlags).resBool
      s.seqFlags.chgSeq) ∧
    ((s.seqMode = false ∧ g = s.gear) ∨
      (s.seqMode = true ∧ g = { s.gear with cur := 0, prev := if s.seq.active then s.gear.cur else 0 })) ∧
    e.sameHostSide s.env ∧ e.events = s.env.events := by
  have hafter : ∃ e, s.afterSeqMode = s.setEnv e ∧ e.sameHostSide s.env ∧ e.events = s.env.events := by
    unfold State.afterSeqMode
    split
    · exact ⟨_, rfl, ⟨rfl, rfl, rfl⟩, rfl⟩
    · exact ⟨s.env, rfl, ⟨rfl, rfl, rfl⟩, rfl⟩
  obtain ⟨e, he, hs, hev⟩ := hafter
  cases hm : s.seqMode
  · refine ⟨s.gear, e, ?_, .inl ⟨rfl, rfl⟩, hs, hev⟩
    simp only [sstep, State.seqGear, hm, he]
    rfl
  · refine ⟨_, e, ?_, .inr ⟨rfl, rfl⟩, hs, hev⟩
    cases ha : s.seq.active
    · have : (s.setEnv e).seqForce = ((s.setEnv e).gearForce 0).gearForce 0 := by
        simp [State.seqForce, ha]
      simp only [sstep, State.seqGear, hm, he, if_true, this, gearForce_zero]
      rfl
    · have : (s.setEnv e).seqForce = (s.setEnv e).gearForce 0 := by
        simp [State.seqForce, ha]
      simp only [sstep, State.seqGear, hm, he, if_true, this, gearForce_zero]
      rfl

/-- What BSERVICE touches: driven exactly on the connected path, the word all zeros off it, the lines at their rest levels
(R221 to R224). -/
theorem bservice_touches (s : State) : ∃ w p e,
    bservice s = ((((s.setSrb { s.srb with cur := w, prev := s.srb.cur, driven := s.busOn }).setPin p).setEnv e).setFlags
      (s.flags.withBtn (buttonsChanged w s.srb.cur))).resBool (buttonsChanged w s.srb.cur) ∧
    ((s.busOn = true ∧ p.latchO = true ∧ p.clockO = false ∧
        ((s.srb.driven = true ∧ p.busOe = s.pin.busOe ∧ p.ledOe = s.pin.ledOe ∧ p.ledO = s.pin.ledO) ∨
          (s.srb.driven = false ∧ p.busOe = true))) ∨
      (s.busOn = false ∧ w = 0 ∧ p.latchO = s.pin.latchO ∧ p.clockO = s.pin.clockO ∧
        ((s.srb.driven = true ∧ p.busOe = false ∧ p.ledOe = false) ∨ (s.srb.driven = false ∧ p = s.pin)))) ∧
    e.sameHostSide s.env ∧ ∃ ev, e.events = s.env.events ++ ev := by
  cases hb : s.busOn <;> cases hd : s.srb.driven
  · refine ⟨0, s.pin, s.env, ?_, .inr ⟨rfl, rfl, rfl, rfl, .inr ⟨rfl, rfl⟩⟩, ⟨rfl, rfl, rfl⟩, [], (List.append_nil _).symm⟩
    simp only [bservice, State.serviceLines, State.serviceWord, State.busReady, hb, hd, if_false, Bool.false_eq_true]
    rw [← hd]
    rfl
  · refine ⟨0, { s.pin with busOe := false, ledOe := false }, { s.env with events := s.env.events ++ releaseEvents }, ?_,
      .inr ⟨rfl, rfl, rfl, rfl, .inl ⟨rfl, rfl, rfl⟩⟩, ⟨rfl, rfl, rfl⟩, releaseEvents, rfl⟩
    simp only [bservice, State.serviceLines, State.serviceWord, State.busReady, hb, hd, if_false, if_true,
      Bool.false_eq_true, busRelease_eq]
    rfl
  · refine ⟨s.serviceWord, { s.busDrive.pin with latchO := true, clockO := false }, { s.busDrive.env with
      events := s.busDrive.env.events ++ shiftEvents s.busDrive.busSamples, srData := s.busDrive.env.srData.after 16 }, ?_,
      .inl ⟨rfl, rfl, rfl, .inr ⟨rfl, ?_⟩⟩, ?_, driveEvents s.ledEn s.srb.ledCmd ++ shiftEvents s.busSamples, ?_⟩
    · simp only [bservice, State.serviceLines, State.busReady, hb, hd, if_false, if_true, Bool.false_eq_true, shiftIn_eq]
      rw [busDrive_eq]
      rfl
    · rw [busDrive_eq]
      dsimp only [State.setPin, State.setEnv]
      split <;> rfl
    · rw [busDrive_eq]
      exact ⟨rfl, rfl, rfl⟩
    · rw [busDrive_eq]
      simp only [State.busSamples, setEnv_env, List.append_assoc]
  · refine ⟨s.serviceWord, { s.pin with latchO := true, clockO := false }, { s.env with
      events := s.env.events ++ shiftEvents s.busSamples, srData := s.env.srData.after 16 }, ?_,
      .inl ⟨rfl, rfl, rfl, .inl ⟨rfl, rfl, rfl, rfl⟩⟩, ⟨rfl, rfl, rfl⟩, shiftEvents s.busSamples, rfl⟩
    simp only [bservice, State.serviceLines, State.busReady, hb, hd, if_true, shiftIn_eq]
    rw [← hd]
    rfl

end Sys2Proof.Machine
end

