-- ==== Sys2Proof/Laws/PerInstr.lean ====
section
/-! SUPPORT. The per-instruction family: the word a well-formed command encodes to carries, in bits 15:8, the opcode byte of
its row of `30_encoding.md` R104, and has every bit that the row's format shows as 0 clear (R102). -/

namespace Sys2Proof.Laws.EncodeFitsRow

/-- The opcode byte and the operand bits of `k` of a command's row (R104, R102). -/
def row : Instr → BitVec 8 × BitVec 8
  | .nop => (0x00, 0x00)
  | .update => (0x01, 0x00)
  | .cpoll => (0x10, 0x00)
  | .csetsp => (0x11, 0x00)
  | .cisconn => (0x12, 0x00)
  | .aread _ => (0x20, 0x01)
  | .agetpos _ => (0x21, 0x01)
  | .asetpos _ => (0x22, 0x01)
  | .asetinv _ => (0x23, 0x01)
  | .asetcal _ => (0x24, 0x01)
  | .aisinv _ => (0x25, 0x01)
  | .gsetcal => (0x30, 0x00)
  | .gupdate => (0x31, 0x00)
  | .gget => (0x32, 0x00)
  | .ssetcal => (0x40, 0x00)
  | .sstep => (0x41, 0x00)
  | .sget => (0x42, 0x00)
  | .bservice => (0x50, 0x00)
  | .bsetled => (0x51, 0x00)
  | .bget _ => (0x52, 0x0F)
  | .bchg _ => (0x53, 0x0F)
  | .bany => (0x54, 0x00)
  | .bprs _ => (0x55, 0x0F)
  | .brel _ => (0x56, 0x0F)
  | .dpad => (0x57, 0x00)

def Statement (i : Instr) : Prop :=
  i.wellFormed = true → opcOf (encode i) = (row i).1 ∧ kOf (encode i) &&& ~~~(row i).2 = 0

/-- A button number below 16 fills only the four operand bits of `k`. -/
theorem button_fits {n : Nat} (o : BitVec 8) (h : n < 16) :
    opcOf (o ++ buttonByte n) = o ∧ kOf (o ++ buttonByte n) &&& ~~~(0x0F : BitVec 8) = 0 := by
  have ho : opcOf (o ++ buttonByte n) = o := by
    unfold opcOf buttonByte
    ext i hi
    simp only [BitVec.getElem_extractLsb', BitVec.getLsbD_append]
    simp [BitVec.getLsbD_eq_getElem hi]
  have hk : kOf (o ++ buttonByte n) = buttonByte n := by
    unfold kOf buttonByte
    ext i hi
    simp only [BitVec.getElem_extractLsb', BitVec.getLsbD_append]
    simp [hi]
  refine ⟨ho, ?_⟩
  rw [hk]
  have key : ∀ m : Fin 16, buttonByte m.val &&& ~~~(0x0F : BitVec 8) = 0 := by decide
  exact key ⟨n, h⟩

theorem nop : Statement .nop := fun _ => by decide
theorem update : Statement .update := fun _ => by decide
theorem cpoll : Statement .cpoll := fun _ => by decide
theorem csetsp : Statement .csetsp := fun _ => by decide
theorem cisconn : Statement .cisconn := fun _ => by decide
theorem aread (a : Axis) : Statement (.aread a) := fun _ => by cases a <;> decide
theorem agetpos (a : Axis) : Statement (.agetpos a) := fun _ => by cases a <;> decide
theorem asetpos (a : Axis) : Statement (.asetpos a) := fun _ => by cases a <;> decide
theorem asetinv (a : Axis) : Statement (.asetinv a) := fun _ => by cases a <;> decide
theorem asetcal (a : Axis) : Statement (.asetcal a) := fun _ => by cases a <;> decide
theorem aisinv (a : Axis) : Statement (.aisinv a) := fun _ => by cases a <;> decide
theorem gsetcal : Statement .gsetcal := fun _ => by decide
theorem gupdate : Statement .gupdate := fun _ => by decide
theorem gget : Statement .gget := fun _ => by decide
theorem ssetcal : Statement .ssetcal := fun _ => by decide
theorem sstep : Statement .sstep := fun _ => by decide
theorem sget : Statement .sget := fun _ => by decide
theorem bservice : Statement .bservice := fun _ => by decide
theorem bsetled : Statement .bsetled := fun _ => by decide
theorem bget (n : Nat) : Statement (.bget n) := fun h => button_fits _ (of_decide_eq_true h)
theorem bchg (n : Nat) : Statement (.bchg n) := fun h => button_fits _ (of_decide_eq_true h)
theorem bany : Statement .bany := fun _ => by decide
theorem bprs (n : Nat) : Statement (.bprs n) := fun h => button_fits _ (of_decide_eq_true h)
theorem brel (n : Nat) : Statement (.brel n) := fun h => button_fits _ (of_decide_eq_true h)
theorem dpad : Statement .dpad := fun _ => by decide

end Sys2Proof.Laws.EncodeFitsRow
end

