-- ==== Sys2Proof/Tests/Slice0.lean ====
section
/-! SUPPORT. The model's own tests: the checks of WellFormed, the decoding of words written out from the patterns of R104,
one step of each command against `95_test_vectors.md`, and for each statement of Obligations.lean with hypotheses a concrete
state that meets them, at the boundary values of its clauses. -/

namespace Sys2Proof.Tests

open Sys2Proof.Machine

/-! ## Helpers -/

/-- A part of the next state, none where there is none. -/
def after {α : Type} (o : Host.Outcome State Fault Refusal) (f : State → α) : Option α :=
  match o with
  | .next t => some (f t)
  | .fault _ => none
  | .refused _ => none

/-- The samples decided at a pin. -/
def feed {α : Type} (vs : List α) : Feed α := ⟨vs, 0⟩

/-- The host will make these moves. -/
def moving (ms : List HostMove) : State := State.resetIn { Env.start with moves := ms }

/-- A monitor, and what `det_in` and the clock (a count, and the time to its next samples) give it. -/
def monitor (c : Conn) (det : List Bool) (clock : Nat) (ms : List Nat) : State :=
  { State.resetIn { Env.start with detIn := feed det, clock := clock, elapsed := feed ms } with conn := c }

/-- Axis X with a calibration, a buffer and the next sample of `ain0`. -/
def axisX (min max raw : Half) (v : BitVec 10) : State :=
  { State.resetIn { Env.start with ain0 := feed [v] } with ax0 := ⟨raw, min, max⟩ }

/-- The gear calibration of R173, with axes calibrated to 0 to 1023, so that each position is its raw sample. -/
def gate (p : GearVal) (x y : BitVec 10) (rev : Bool) : State :=
  { State.resetIn { Env.start with ain0 := feed [x], ain1 := feed [y], revIn := feed [rev] } with
    gear := ⟨p, 0, false⟩
    gc := ⟨511, 511, 869, 767, 154, 256, 205, 818, 500, 500⟩ }

/-- The state after the two reads of a gear decode. -/
def afterReads (s : State) : State := aread .y (aread .x s)

/-- The gear before is retained by its release threshold (R176 step 2). -/
abbrev retainedIn (s : State) : Prop :=
  ((s.gear.cur.toInt = 1 ∨ s.gear.cur.toInt = 3 ∨ s.gear.cur.toInt = 5) ∧ (afterReads s).ax1.norm > s.gc.oddRel.toInt) ∨
  ((s.gear.cur.toInt = 2 ∨ s.gear.cur.toInt = 4 ∨ s.gear.cur.toInt = 6) ∧ (afterReads s).ax1.norm < s.gc.evenRel.toInt)

/-- The sequential decoder on the calibration 710, 650, 290, 350. -/
def shifter (old : BitVec 2) (active : Bool) (p : GearVal) (y : Half) (mode : Bool) : State :=
  { State.resetIn { Env.start with seqModeIn := feed [mode] } with
    seq := ⟨old, active⟩, sc := ⟨710, 650, 290, 350⟩, gear := ⟨p, 0, false⟩, ax1 := ⟨y, 0, 1023⟩
    flags := ⟨false, false, true, false, false, false⟩ }

/-- Sixteen samples of `sr_data`: the bits of a word, bit 15 first. -/
def bitsOf (w : Half) : List Bool := (List.range 16).map (fun i => w.getLsbD (15 - i))

/-- The bus with a word waiting on `sr_data`. -/
def bus (cur : Half) (driven : Bool) (w : Half) : State :=
  { State.resetIn { Env.start with srData := feed (bitsOf w) } with
    srb := ⟨cur, 0, false, driven⟩, pin := ⟨driven, false, false, driven, driven⟩ }

/-- A connected block with its lines driven, in reverse, the tri-state down, and the host's moves pending. -/
def midDrive (ms : List HostMove) : State :=
  { bus 1 true 0 with
    env := { Env.start with moves := ms }
    gear := ⟨-1, 6, true⟩
    seq := ⟨-1, true⟩ }

/-- A word of buttons and the one before. -/
def buttons (cur prev : Half) : State := { State.reset with srb := ⟨cur, prev, false, false⟩ }

/-- Everything one UPDATE can sample, while the device stays connected. -/
def everySample (mode : Bool) (s : State) : State :=
  { s with env := { Env.start with
      detIn := feed [true], ain0 := feed [500], ain1 := feed [500], revIn := feed [false], seqModeIn := feed [mode]
      srData := feed (bitsOf 0) } }

/-- The device unplugged: the polls read inactive. -/
def unplugged (det : List Bool) : State :=
  { monitor ⟨.connected, true, 0, 250⟩ det 0 [10, 10, 10, 10] with gear := ⟨3, 0, false⟩ }

/-! ## Well-formedness: R102 gives a button number four bits -/

theorem test_wf_bget : Instr.wellFormed (.bget 16) = false ∧ Instr.wellFormed (.bget 15) = true := by decide
theorem test_wf_bchg : Instr.wellFormed (.bchg 16) = false ∧ Instr.wellFormed (.bchg 15) = true := by decide
theorem test_wf_bprs : Instr.wellFormed (.bprs 16) = false ∧ Instr.wellFormed (.bprs 15) = true := by decide
theorem test_wf_brel : Instr.wellFormed (.brel 16) = false ∧ Instr.wellFormed (.brel 15) = true := by decide

/-! ## Decoding: words written out bit by bit from the patterns of R104 -/

theorem test_decode_nop : decode 0b0000000000000000 = .ok .nop := rfl
theorem test_decode_update : decode 0b0000000100000000 = .ok .update := rfl
theorem test_decode_cpoll : decode 0b0001000000000000 = .ok .cpoll := rfl
theorem test_decode_csetsp : decode 0b0001000100000000 = .ok .csetsp := rfl
theorem test_decode_cisconn : decode 0b0001001000000000 = .ok .cisconn := rfl
theorem test_decode_aread : decode 0b0010000000000000 = .ok (.aread .x) ∧ decode 0b0010000000000001 = .ok (.aread .y) :=
  ⟨rfl, rfl⟩
theorem test_decode_agetpos : decode 0b0010000100000001 = .ok (.agetpos .y) := rfl
theorem test_decode_asetpos : decode 0b0010001000000000 = .ok (.asetpos .x) := rfl
theorem test_decode_asetinv : decode 0b0010001100000001 = .ok (.asetinv .y) := rfl
theorem test_decode_asetcal : decode 0b0010010000000000 = .ok (.asetcal .x) := rfl
theorem test_decode_aisinv : decode 0b0010010100000001 = .ok (.aisinv .y) := rfl
theorem test_decode_gsetcal : decode 0b0011000000000000 = .ok .gsetcal := rfl
theorem test_decode_gupdate : decode 0b0011000100000000 = .ok .gupdate := rfl
theorem test_decode_gget : decode 0b0011001000000000 = .ok .gget := rfl
theorem test_decode_ssetcal : decode 0b0100000000000000 = .ok .ssetcal := rfl
theorem test_decode_sstep : decode 0b0100000100000000 = .ok .sstep := rfl
theorem test_decode_sget : decode 0b0100001000000000 = .ok .sget := rfl
theorem test_decode_bservice : decode 0b0101000000000000 = .ok .bservice := rfl
theorem test_decode_bsetled : decode 0b0101000100000000 = .ok .bsetled := rfl
theorem test_decode_bget : decode 0b0101001000001111 = .ok (.bget 15) := rfl
theorem test_decode_bchg : decode 0b0101001100001010 = .ok (.bchg 10) := rfl
theorem test_decode_bany : decode 0b0101010000000000 = .ok .bany := rfl
theorem test_decode_bprs : decode 0b0101010100000101 = .ok (.bprs 5) := rfl
theorem test_decode_brel : decode 0b0101011000001000 = .ok (.brel 8) := rfl
theorem test_decode_dpad : decode 0b0101011100000000 = .ok .dpad := rfl

/-- The reserved words of section 2.1, by name. -/
theorem test_decode_reserved :
    decode 0x0001 = .error (.reservedOperand 0x00 0x01) ∧ decode 0x0200 = .error (.reservedOpcode 0x02) ∧
    decode 0x1080 = .error (.reservedOperand 0x10 0x80) ∧ decode 0x2002 = .error (.reservedOperand 0x20 0x02) ∧
    decode 0x2600 = .error (.reservedOpcode 0x26) ∧ decode 0x5210 = .error (.reservedOperand 0x52 0x10) ∧
    decode 0x5401 = .error (.reservedOperand 0x54 0x01) ∧ decode 0xFFFF = .error (.reservedOpcode 0xFF) := by
  decide

/-- The table's numbering: the word itself, and nothing above the bits the table gives. -/
theorem test_tableWord : decodeTableWord 16 0x520F = some (.bget 15) ∧ decodeTableWord 16 0x5210 = none ∧
    decodeTableWord 16 0x15700 = some .dpad := by
  decide

/-! ## The host's moves (sections 2.1 and 2.2) -/

theorem test_command_high_half_ignored :
    after (step (moving [.write 0x00 0xABCD1200])) (fun t => (t.res, t.env.moves)) = some (1, []) := by decide
theorem test_reserved_word : after (step (moving [.write 0x00 0x5800]))
    (fun t => (t.readWord 0x06, t.readWord 0x02, t.readWord 0x01, t.env.events)) = some (0, 0, 0xE, []) := by decide
theorem test_read_cfg : after (step (moving [.read 0x03])) (fun t => t.env.rdata) = some 0x6FD := by decide
theorem test_write_cfg : after (step (moving [.write 0x03 0xFFFFFFFF])) (·.readWord 0x03) = some 0x7FF := by decide
theorem test_write_dpadmap : after (step (moving [.write 0x0A 0x12345678])) (·.readWord 0x0A) = some 0x5678 := by decide
theorem test_write_gpeng : after (step (moving [.write 0x28 0x1FFFF])) (·.readWord 0x28) = some 0xFFFFFFFF := by decide
theorem test_write_status : after (step (moving [.write 0x01 0xFF])) (·.readWord 0x01) = some 0xE := by decide
theorem test_transfer_in_reset :
    (step { moving [.read 0x03] with env := { Env.start with moves := [.read 0x03], rstN := false } }) =
      .refused .transferDuringReset := rfl
theorem test_withFetchWord : after (step (State.reset.withFetchWord 16 0x1200)) (·.res) = some 1 := by decide

/-! ## Commands, one step each (sections 2.3 to 2.8 and 3) -/

theorem test_nop : exec .nop State.reset = .next State.reset := rfl

/-- P1 line 1, branch (c). -/
theorem test_cpoll_fall : after (exec .cpoll (monitor ⟨.connected, true, 0, 250⟩ [false] 0 [1000]))
    (fun t => (t.conn, t.readWord 0x01)) = some (⟨.unplug, false, 1000, 250⟩, 0x03) := by decide
/-- Section 2.3, the clock wraps between the rise and the poll. -/
theorem test_cpoll_wrap : after (exec .cpoll (monitor ⟨.plugIn, true, 0xFFFFFF38, 250⟩ [true] 0xFFFFFF38 [250]))
    (fun t => (t.conn.state, t.conn.lastChange, t.env.clock)) = some (.connected, 0xFFFFFF38, 0x100000032) := by decide
theorem test_csetsp_shift : after (exec .csetsp { monitor ⟨.connected, true, 0, 250⟩ [] 0 [100] with arg0 := 300 })
    (fun t => (t.conn.stable, t.conn.lastChange)) = some (300, 0xFFFFFF38) := by decide
theorem test_csetsp_plugIn : after (exec .csetsp { monitor ⟨.plugIn, true, 5000, 250⟩ [] 0 [100] with arg0 := 50 })
    (fun t => (t.conn.stable, t.conn.lastChange, t.env.clock)) = some (50, 5000, 0) := by decide
theorem test_cisconn : after (exec .cisconn State.reset) (·.res) = some 1 ∧
    after (exec .cisconn (monitor ⟨.unplug, false, 0, 250⟩ [] 0 [])) (·.res) = some 0 := by decide

theorem test_aread_to_bound : after (exec (.aread .x) (axisX 100 900 50 100)) (fun t => (t.res, t.ax0.raw, t.readWord 0x02)) =
    some (1, 100, 0x10) := by decide
theorem test_aread_inverted_above : after (exec (.aread .x) (axisX 900 100 950 1000))
    (fun t => (t.res, t.ax0.raw, t.readWord 0x02)) = some (0, 1000, 0) := by decide
theorem test_agetpos_floor : after (exec (.agetpos .x) { axisX 100 102 101 0 with arg0 := 0xFFFFFFF7, arg1 := 0 }) (·.res) =
    some 0xFFFFFFFB := by decide
theorem test_agetpos_wide : after (exec (.agetpos .x) { axisX 0x8000 0x7FFF 32766 0 with
    arg0 := 0x80000000, arg1 := 0x7FFFFFFF }) (·.res) = some 0x7FFEFFFE := by decide
theorem test_asetpos : after (exec (.asetpos .y) { State.reset with arg0 := 0x12348001 }) (fun t => t.ax1.raw.toInt) =
    some (-32767) := by decide
theorem test_asetinv : after (exec (.asetinv .x) { axisX 200 800 0 0 with arg0 := 1 }) (fun t => (t.ax0.min, t.ax0.max)) =
    some (800, 200) := by decide
theorem test_asetinv_bit0_only : after (exec (.asetinv .x) { axisX 200 800 0 0 with arg0 := 2 })
    (fun t => (t.ax0.min, t.ax0.max)) = some (200, 800) := by decide
theorem test_asetcal : after (exec (.asetcal .y) { State.reset with arg0 := 0xFFFF8000, arg1 := 0x17FFF })
    (fun t => (t.ax1.min, t.ax1.max)) = some (0x8000, 0x7FFF) := by decide
theorem test_aisinv : after (exec (.aisinv .x) (axisX 800 200 0 0)) (·.res) = some 1 := by decide

/-- The sixth row of section 2.5. -/
theorem test_gsetcal : after (exec .gsetcal { State.reset with cal := { State.reset.cal with
      gs0 := 0x01F20200, gs1 := 0x03160136, gs2 := 0x00D20122, gs3 := 0x032501F9, gs4 := 0x00C301EF, gs5 := 0x032F02C6
      gs6 := 0x00BE02B2 } })
    (fun t => (t.ax0, t.ax1, t.gc)) =
    some (⟨0, 300, 700⟩, ⟨0, 198, 803⟩, ⟨542, 507, 868, 765, 153, 254, 217, 830, 512, 498⟩) := by decide
theorem test_gsetcal_example : after (exec .gsetcal { State.reset with cal := { State.reset.cal with
      gs0 := 0x01F401F4, gs1 := 0x0320012C, gs2 := 0x00C8012C, gs3 := 0x032001F4, gs4 := 0x00C801F4, gs5 := 0x032002BC
      gs6 := 0x00C802BC } })
    (fun t => (t.ax0, t.ax1, t.gc)) =
    some (⟨0, 300, 700⟩, ⟨0, 200, 800⟩, ⟨511, 511, 869, 767, 154, 256, 205, 818, 500, 500⟩) := by decide
theorem test_gupdate_reverse : after (exec .gupdate (gate 0 1023 0 true)) (fun t => (t.gear.cur.toInt, t.gear.rev, t.res)) =
    some (-1, true, 1) := by decide
theorem test_gupdate_idle : after (exec .gupdate { gate 3 0 0 false with
      conn := ⟨.unplug, false, 0, 250⟩, ax0 := ⟨1, 300, 700⟩, ax1 := ⟨2, 200, 800⟩
      flags := ⟨false, false, false, false, true, false⟩ })
    (fun t => (t.gear.cur, t.gear.prev, t.res, t.ax0.raw, t.ax1.raw, t.readWord 0x02)) =
    some (0, 3, 1, 500, 500, 0x14) := by decide
theorem test_gget : after (exec .gget (gate (-1) 0 0 false)) (·.res) = some 0xFFFFFFFF := by decide

theorem test_ssetcal : after (exec .ssetcal { State.reset with cal := { State.reset.cal with
      sqNeu := 500, sqUp := 805, sqDn := 197, sqpEng := 33, sqpRel := 20 } }) (·.sc) = some ⟨600, 561, 401, 440⟩ := by decide
theorem test_sstep_first : after (exec .sstep (shifter 0 false 4 200 true))
    (fun t => (t.seq.state.toInt, t.seq.active, t.gear.cur, t.gear.prev, t.readWord 0x02)) =
    some (-1, true, 0, 0, 0x08) := by decide
theorem test_sstep_leaves : after (exec .sstep (shifter 1 true 3 800 false))
    (fun t => (t.seq.state, t.seq.active, t.gear.cur, t.readWord 0x02)) = some (0, false, 3, 0x0C) := by decide
theorem test_sget : after (exec .sget (shifter 3 true 0 0 true)) (·.res) = some 0xFFFFFFFF := by decide

/-- The first row of section 2.7: 56 pin events. -/
theorem test_bservice_first : after (exec .bservice (bus 0 false 0x8000))
    (fun t => (t.srb, t.pin, t.readWord 0x02, t.env.events.length, t.env.events.take 9)) =
    some (⟨0x8000, 0, false, true⟩, ⟨true, false, false, true, true⟩, 0x02, 56,
      [.latch true, .clock false, .busEnable true, .led false, .ledEnable true, .latch false, .latch true, .clock false,
       .sample true]) := by decide
theorem test_bservice_order : after (exec .bservice (bus 0x8000 true 0xA5C3))
    (fun t => (t.readWord 0x0B, t.res, t.env.events.length)) = some (0x8000A5C3, 1, 51) := by decide
theorem test_bsetled : after (exec .bsetled { bus 0 true 0 with arg0 := 1 }) (fun t => (t.srb.ledCmd, t.pin.ledO, t.env.events)) =
    some (true, true, [.led true]) := by decide
theorem test_bsetled_undriven : after (exec .bsetled { bus 0 false 0 with arg0 := 1 })
    (fun t => (t.readWord 0x01, t.pin.ledO, t.env.events)) = some (0x2E, false, []) := by decide
theorem test_bget : after (exec (.bget 0) (buttons 0x0001 0xA5C3)) (·.res) = some 1 := by decide
theorem test_bchg : after (exec (.bchg 15) (buttons 0x0001 0xA5C3)) (·.res) = some 1 := by decide
theorem test_bany : after (exec .bany (buttons 0x0001 0xA5C3)) (·.res) = some 1 := by decide
theorem test_bprs : after (exec (.bprs 1) (buttons 0x8003 0x8000)) (·.res) = some 1 ∧
    after (exec (.bprs 15) (buttons 0x8003 0x8000)) (·.res) = some 0 := by decide
theorem test_brel : after (exec (.brel 1) (buttons 0x0001 0xA5C3)) (·.res) = some 1 := by decide
/-- The sixteen rows of section 2.7. -/
theorem test_dpad : (List.range 16).map (fun f => after (exec .dpad (buttons (BitVec.ofNat 16 f) 0)) (fun t => t.res.toInt)) =
    [-1, 0, 90, 45, 180, -1, 135, 90, 270, 315, -1, 0, 225, 270, 180, -1].map some := by decide
theorem test_dpad_map : after (exec .dpad { buttons 0x3000 0 with dpadMap := 0xFEDC }) (·.res) = some 45 := by decide

/-! ## Witnesses: states that meet the hypotheses of the statements, at the boundaries of their clauses -/

/-! The encoding and the host's moves. -/

theorem test_witness_DecodeOfEncode : Instr.wellFormed (.bget 15) = true ∧ Instr.wellFormed (.aread .y) = true := by decide
theorem test_witness_DecodedWordIsItsEncoding :
    decode 0x560F = .ok (.brel 15) ∧ decode 0x2501 = .ok (.aisinv .y) ∧ decode 0x0000 = .ok .nop := ⟨rfl, rfl, rfl⟩
theorem test_witness_StepRunsTheCommandWritten :
    (moving [.write 0x00 0xABCD1200]).env.rstN = true ∧
    (moving [.write 0x00 0xABCD1200]).env.moves = .write 0x00 0xABCD1200 :: [] ∧
    decode ((0xABCD1200 : Word).setWidth 16) = .ok .cisconn ∧ Instr.wellFormed .cisconn = true := ⟨rfl, rfl, rfl, rfl⟩
theorem test_witness_StepRunsThePlacedCommand :
    State.reset.env.rstN = true ∧ decodeTableWord 16 0x520F = some (.bget 15) := by decide
theorem test_witness_ReservedCommandDoesNothing :
    (moving [.write 0x00 0x5210]).env.rstN = true ∧ (moving [.write 0x00 0x5210]).env.moves = .write 0x00 0x5210 :: [] ∧
    decode ((0x5210 : Word).setWidth 16) = .error (.reservedOperand 0x52 0x10) := ⟨rfl, rfl, rfl⟩
theorem test_witness_HostReadHasNoSideEffect :
    (moving [.read 0x7F]).env.rstN = true ∧ (moving [.read 0x7F]).env.moves = .read 0x7F :: [] := ⟨rfl, rfl⟩
/-- The reserved addresses of `RegisterMapReads` and their neighbours. -/
theorem test_witness_RegisterMapReads :
    ([0x07, 0x0F, 0x13, 0x17, 0x1F, 0x27, 0x2B, 0x31, 0x37, 0x46, 0x7F].map Reg.at).all (· == none) ∧
    ([0x06, 0x08, 0x0E, 0x10, 0x12, 0x14, 0x16, 0x20, 0x26, 0x28, 0x2A, 0x2C, 0x30, 0x38, 0x45].map Reg.at).all
      (fun r => r != none) := by decide
/-- Each clause of `HostWriteStoresInItsFormat` at the ends of its ranges: the word each address reads after the write. -/
theorem test_witness_HostWriteStoresInItsFormat :
    (∀ a : RegAddr, (moving [.write a 0x8765FFFE]).env.rstN = true ∧
      (moving [.write a 0x8765FFFE]).env.moves = .write a 0x8765FFFE :: []) ∧
    (0x01 : RegAddr) ≠ 0x00 ∧ (0x7F : RegAddr) ≠ 0x00 ∧
    ([0x04, 0x05, 0x20, 0x26].map (fun a => after (step (moving [.write a 0x8765FFFE])) (·.readWord a))).all
      (· == some 0x8765FFFE) ∧
    after (step (moving [.write 0x03 0x8765FFFE])) (·.readWord 0x03) = some 0x7FE ∧
    after (step (moving [.write 0x0A 0x8765FFFE])) (·.readWord 0x0A) = some 0xFFFE ∧
    ([0x28, 0x2A, 0x2C, 0x30].map (fun a => after (step (moving [.write a 0x8765FFFE])) (·.readWord a))).all
      (· == some 0xFFFFFFFE) ∧
    ([0x01, 0x02, 0x06, 0x07, 0x08, 0x1F, 0x27, 0x2B, 0x31, 0x45, 0x7F].map (fun a =>
      after (step (moving [.write a 0x8765FFFE])) (fun t => t == State.reset))).all (· == some true) := by
  refine ⟨fun _ => ⟨rfl, rfl⟩, ?_⟩
  decide
theorem test_witness_NothingHappensBetweenCommands : State.reset.env.moves = [] := rfl
theorem test_witness_ResetDriveGivesTheResetValues :
    (moving [.rst false]).env.moves = .rst false :: [] ∧
    { Env.start with moves := [.rst true], rstN := false }.moves = .rst true :: [] ∧
    { Env.start with moves := [.rst true], rstN := false }.rstN = false := ⟨rfl, rfl, rfl⟩
theorem test_witness_OnlyTransfersDuringResetAreRefused :
    (State.resetIn { Env.start with moves := [.read 0], rstN := false }).env.rstN = false ∧
    (State.resetIn { Env.start with moves := [.read 0], rstN := false }).env.moves = .read 0 :: [] := ⟨rfl, rfl⟩

/-! What every command keeps. -/

/-- A connected, driven block with a command pending is coherent, and steps. -/
theorem test_witness_StepKeepsCoherence :
    (midDrive [.write 0x00 0x1200]).Coherent ∧ after (step (midDrive [.write 0x00 0x1200])) (·.res) = some 1 := by
  constructor
  · constructor <;> decide
  · decide
theorem test_witness_commands : exec .update (everySample true State.reset) =
    .next (((updateCalls (everySample true State.reset)).setFlags ((updateCalls (everySample true State.reset)).flags.withChg
      (anyChanged (updateCalls (everySample true State.reset)).flags))).resBool
        (anyChanged (updateCalls (everySample true State.reset)).flags)) := rfl
/-- `OnlyItsCommandsWriteAnElement`, `CommandsOnlyAddPinEvents`: a command outside every exception, and one of each list. -/
theorem test_witness_OnlyItsCommandsWriteAnElement :
    exec .nop State.reset = .next State.reset ∧ (∃ t, exec (.asetcal .y) State.reset = .next t) ∧
    ∃ t, exec (.aread .x) (axisX 0 1023 0 1) = .next t := ⟨rfl, ⟨_, rfl⟩, ⟨_, rfl⟩⟩
/-- Every port unused at once, and an UPDATE that completes. -/
theorem test_witness_UnusedPinsAreNeverRead :
    let s : State := { State.reset with cfg := 0 }
    s.cfg[0] = false ∧ s.cfg[2] = false ∧ s.cfg[3] = false ∧ s.cfg[4] = false ∧ s.cfg[6] = false ∧ s.cfg[7] = false ∧
    after (exec .update s) (fun t => (t.env.srData.taken, t.env.detIn.taken, t.env.ain0.taken, t.gear.cur)) =
      some (0, 0, 0, 0) := by decide

/-! The connection monitor. -/

/-- One state for each clause of `CpollTakesItsBranches`, the elapsed time at and just below the period. -/
theorem test_witness_CpollTakesItsBranches :
    after (exec .cpoll (monitor ⟨.connected, true, 0, 250⟩ [true] 0 [])) (fun t => (t.conn, t.env.elapsed.taken)) =
      some (⟨.connected, true, 0, 250⟩, 0) ∧
    after (exec .cpoll (monitor ⟨.unplug, false, 2150, 250⟩ [true] 2150 [10])) (·.conn) =
      some ⟨.plugIn, true, 2160, 250⟩ ∧
    after (exec .cpoll (monitor ⟨.plugIn, true, 2000, 250⟩ [false] 2100 [50])) (·.conn) =
      some ⟨.unplug, false, 2150, 250⟩ ∧
    after (exec .cpoll (monitor ⟨.plugIn, true, 2160, 250⟩ [true] 2409 [1])) (·.conn) =
      some ⟨.connected, true, 2160, 250⟩ ∧
    after (exec .cpoll (monitor ⟨.plugIn, true, 2160, 250⟩ [true] 2160 [249])) (·.conn) =
      some ⟨.plugIn, true, 2160, 250⟩ ∧
    after (exec .cpoll (monitor ⟨.unplug, false, 1000, 250⟩ [false] 1000 [10])) (·.conn) =
      some ⟨.disconnected, false, 1000, 250⟩ ∧
    after (exec .cpoll (monitor ⟨.disconnected, false, 1000, 250⟩ [false] 1000 [4000])) (·.conn) =
      some ⟨.disconnected, false, 1000, 250⟩ := by decide
/-- One state for each clause of `CsetspKeepsTheConnection`, the elapsed time at and just below the new period. -/
theorem test_witness_CsetspKeepsTheConnection :
    after (exec .csetsp { monitor ⟨.unplug, false, 5000, 250⟩ [] 5000 [100] with arg0 := 300 }) (·.conn) =
      some ⟨.unplug, false, 5000, 300⟩ ∧
    after (exec .csetsp { monitor ⟨.connected, true, 5000, 250⟩ [] 5000 [299] with arg0 := 300 }) (·.conn) =
      some ⟨.connected, true, 4999, 300⟩ ∧
    after (exec .csetsp { monitor ⟨.connected, true, 5000, 250⟩ [] 5000 [300] with arg0 := 300 }) (·.conn) =
      some ⟨.connected, true, 5000, 300⟩ := by decide
/-- A rise followed by two polls, the stable period met exactly at the second. -/
theorem test_witness_DebounceWaitsForTheStablePeriod :
    let s := monitor ⟨.plugIn, true, 1000, 250⟩ [true, true] 1000 [249, 1]
    s.conn.state = .plugIn ∧ s.conn.level = true ∧ s.conn.lastChange = BitVec.ofNat 32 s.env.clock ∧ s.cfg[0] = true ∧
    (∀ i, i < 2 → (s.env.detIn.nth Config.freeDetIn i ^^ s.cfg[1]) = true) ∧
    ((List.range 2).map (s.env.elapsed.nth Config.freeElapsed)).sum = 250 ∧
    after (runCommands [.cpoll] s) (·.conn.state) = some .plugIn ∧
    after (runCommands [.cpoll, .cpoll] s) (·.conn.state) = some .connected := by decide
theorem test_witness_ConnectedUntilReadInactive :
    let s := monitor ⟨.connected, true, 0, 250⟩ [true, false] 0 [10]
    s.conn.state = .connected ∧ s.conn.level = true ∧ s.cfg[0] = true ∧
    (∀ i, i < 1 → (s.env.detIn.nth Config.freeDetIn i ^^ s.cfg[1]) = true) ∧
    (s.env.detIn.nth Config.freeDetIn 1 ^^ s.cfg[1]) = false ∧
    after (runCommands [.cpoll, .cpoll] s) (·.conn.state) = some .unplug := by decide
theorem test_witness_ClockSamplesObeyTheLaw :
    (monitor ⟨.connected, true, 0, 250⟩ [] 7 [3, 4294967295]).takeNowMs.elapsedNext = 2 ^ 32 - 1 := by decide

/-! The axes. -/

/-- The clauses of `AreadSamplesAndReportsChange` (a used and an unused port of each axis). -/
theorem test_witness_AreadSamplesAndReportsChange :
    State.reset.cfg[6] = true ∧ State.reset.cfg[7] = true ∧ ({ State.reset with cfg := 0x63D } : State).cfg[6] = false ∧
    ({ State.reset with cfg := 0x63D } : State).cfg[7] = false := by decide
/-- The four cases of `SaturatedSamplesReportNoChange`, one step outside the bounds 100 and 900. -/
theorem test_witness_SaturatedSamplesReportNoChange :
    (axisX 100 900 50 99).axEn .x = true ∧
    after (exec (.aread .x) (axisX 100 900 50 99)) (·.res) = some 0 ∧
    after (exec (.aread .x) (axisX 100 900 950 901)) (·.res) = some 0 ∧
    after (exec (.aread .x) (axisX 100 900 99 901)) (·.res) = some 1 ∧
    after (exec (.aread .x) (axisX 100 900 901 99)) (·.res) = some 1 := by decide
/-- Raw values in order, for each orientation of calibration and of output. -/
theorem test_witness_RemapIsMonotone :
    (499 : Int) ≤ 500 ∧ AxisState.remap ⟨0, 200, 800⟩ 499 0 1023 = 509 ∧ AxisState.remap ⟨0, 200, 800⟩ 500 0 1023 = 511 ∧
    AxisState.remap ⟨0, 800, 200⟩ 499 0 1023 = 513 ∧ AxisState.remap ⟨0, 800, 200⟩ 500 0 1023 = 511 ∧
    AxisState.remap ⟨0, 0, 1023⟩ 300 100 0 = 71 := by decide
/-- Both orientations of `RemapMeetsTheOutputBounds`, on and beyond the bounds; equal bounds apart. -/
theorem test_witness_RemapMeetsTheOutputBounds :
    (⟨0, 200, 800⟩ : AxisState).min ≠ (⟨0, 200, 800⟩ : AxisState).max ∧
    AxisState.remap ⟨0, 200, 800⟩ 200 0 1023 = 0 ∧ AxisState.remap ⟨0, 200, 800⟩ 800 0 1023 = 1023 ∧
    AxisState.remap ⟨0, 800, 200⟩ 800 0 1023 = 0 ∧ AxisState.remap ⟨0, 800, 200⟩ 200 0 1023 = 1023 ∧
    AxisState.remap ⟨0, 5, 5⟩ 5 0 9 = 0 ∧ AxisState.remap ⟨0, 5, 5⟩ 6 0 9 = 9 := by decide
/-- Swapped, kept, and equal bounds, for `AsetinvSwapsOnlyWhenItDiffers`. -/
theorem test_witness_AsetinvSwapsOnlyWhenItDiffers :
    after (exec (.asetinv .x) { axisX 800 200 0 0 with arg0 := 0 }) (fun t => (t.ax0.min, t.ax0.max)) = some (200, 800) ∧
    after (exec (.asetinv .x) { axisX 800 200 0 0 with arg0 := 1 }) (fun t => (t.ax0.min, t.ax0.max)) = some (800, 200) ∧
    after (exec (.asetinv .y) { State.reset with arg0 := 1 }) (fun t => (t.ax1.min, t.ax1.max)) = some (1023, 0) ∧
    after (exec (.asetinv .y) State.reset) (fun t => (t.ax1.min, t.ax1.max)) = some (0, 1023) ∧
    after (exec (.asetinv .x) { axisX 5 5 0 0 with arg0 := 1 }) (fun t => (t.ax0.min, t.ax0.max)) = some (5, 5) := by decide

/-! The gear decoder. -/

theorem test_witness_GsetcalOrdersTheThresholds :
    pct State.reset.cal.gpRel ≤ pct State.reset.cal.gpEng ∧ ∃ t, exec .gsetcal State.reset = .next t := ⟨by decide, _, rfl⟩
theorem test_witness_GupdateIdlesWhenNotConnected :
    (monitor ⟨.plugIn, true, 0, 250⟩ [] 0 []).conn.state ≠ .connected := by decide
theorem test_witness_GupdateDecodesWhenConnected : (gate 0 205 870 false).conn.state = .connected := rfl
/-- The hypotheses of `GearGateMap`, the same for every cell. -/
theorem test_witness_GearGateMap :
    let s := gate 0 205 870 false
    s.conn.state = .connected ∧ runCommands [.aread .x, .aread .y] s = .next (afterReads s) ∧ s.gear.cur.toInt ≠ -1 ∧
    ¬ retainedIn s ∧
    s.cfg[2] = true ∧ s.revIn = false ∧ 6 ≤ (s.cfg.extractLsb' 8 3).toNat ∧ s.gc.evenTrig.toInt ≤ s.gc.oddTrig.toInt ∧
    s.gc.left.toInt ≤ s.gc.right.toInt := by
  refine ⟨rfl, rfl, ?_⟩
  decide
/-- Its seven cells at the boundaries of the thresholds 154, 869 and 205, 818. -/
theorem test_witness_GearGateMap_cells :
    [(204, 870), (205, 870), (818, 870), (819, 870), (204, 869), (819, 154), (204, 153), (205, 153), (818, 153),
      (819, 153)].map (fun p : BitVec 10 × BitVec 10 => after (exec .gupdate (gate 0 p.1 p.2 false)) (·.gear.cur.toInt)) =
    [1, 3, 3, 5, 0, 0, 2, 4, 4, 6].map some := by decide
/-- Retention one above and one below the release thresholds 767 and 256, and the release at them. -/
theorem test_witness_HysteresisKeepsTheGear :
    let s := gate 3 0 768 true
    s.conn.state = .connected ∧ runCommands [.aread .x, .aread .y] s = .next (afterReads s) ∧ s.gear.cur.toInt ≤ (s.cfg.extractLsb' 8 3).toNat ∧
    retainedIn s ∧ (afterReads s).ax1.norm = 768 ∧
    after (exec .gupdate s) (fun t => (t.gear.cur, t.res)) = some (3, 0) ∧
    after (exec .gupdate (gate 2 1023 255 false)) (fun t => (t.gear.cur, t.res)) = some (2, 0) ∧
    after (exec .gupdate (gate 3 500 767 false)) (fun t => (t.gear.cur, t.gear.prev, t.res)) = some (0, 3, 1) := by
  refine ⟨rfl, rfl, ?_⟩
  decide
/-- Both slots of the interlock, at their boundaries. -/
theorem test_witness_ReverseInterlock :
    let s := gate 0 819 870 true
    s.conn.state = .connected ∧ runCommands [.aread .x, .aread .y] s = .next (afterReads s) ∧ s.cfg[2] = true ∧ s.revIn = true ∧
    ¬ retainedIn s ∧ (afterReads s).ax0.norm = 819 ∧
    after (exec .gupdate s) (·.gear.cur.toInt) = some 0 ∧
    after (exec .gupdate (gate 0 819 153 true)) (·.gear.cur.toInt) = some (-1) := by
  refine ⟨rfl, rfl, ?_⟩
  decide
/-- Reverse kept in its slot without the button, and left at the trigger and at the edge. -/
theorem test_witness_ReverseStaysInItsSlot :
    let s := gate (-1) 819 153 false
    s.conn.state = .connected ∧ runCommands [.aread .x, .aread .y] s = .next (afterReads s) ∧ s.cfg[2] = true ∧ s.gear.cur.toInt = -1 ∧
    s.gc.evenTrig.toInt ≤ s.gc.oddTrig.toInt ∧
    after (exec .gupdate s) (·.gear.cur.toInt) = some (-1) ∧
    after (exec .gupdate (gate (-1) 819 154 false)) (·.gear.cur.toInt) = some 0 ∧
    after (exec .gupdate (gate (-1) 818 153 false)) (·.gear.cur.toInt) = some 4 := by
  refine ⟨rfl, rfl, ?_⟩
  decide
/-- A slot above `MAXGEAR`, at it, and −1 with no reverse signal wired. -/
theorem test_witness_GearStaysInBounds :
    after (exec .gupdate { gate 0 819 870 false with cfg := 0x4FD }) (·.gear.cur.toInt) = some 0 ∧
    after (exec .gupdate { gate 0 500 153 false with cfg := 0x4FD }) (·.gear.cur.toInt) = some 4 ∧
    after (exec .gupdate { gate (-1) 819 153 true with cfg := 0x6F9 }) (·.gear.cur.toInt) = some 0 := by decide

/-! The sequential decoder. -/

theorem test_witness_SsetcalOrdersTheThresholds :
    let s : State := { State.reset with cal := { State.reset.cal with sqNeu := 500, sqUp := 501, sqDn := 499 } }
    s.cal.sqDn.toInt < s.cal.sqNeu.toInt ∧ s.cal.sqNeu.toInt < s.cal.sqUp.toInt ∧
    after (exec .ssetcal s) (·.sc) = some ⟨500, 500, 500, 500⟩ := by decide
/-- The tri-state at the boundaries 710, 650, 290, 350, and the two ways out of sequential mode. -/
theorem test_witness_SstepFollowsItsMode :
    (shifter 0 true 0 709 true).cfg[3] = true ∧ (shifter 0 true 0 709 true).conn.state = .connected ∧
    (shifter 0 true 0 709 true).seqModeIn = true ∧ (shifter 1 true 0 0 false).seqModeIn = false ∧
    [(0, 709), (0, 710), (0, 291), (0, 290), (1, 650), (1, 649), (-1, 350), (-1, 351)].map (fun p : BitVec 2 × Half =>
      after (exec .sstep (shifter p.1 true 4 p.2 true)) (fun t => (t.seq.state.toInt, t.res, t.gear.prev))) =
      [(0, 0, 4), (1, 1, 4), (0, 0, 4), (-1, 1, 4), (1, 0, 4), (0, 1, 4), (-1, 0, 4), (0, 1, 4)].map some ∧
    after (exec .sstep { shifter 1 true 3 800 true with cfg := 0x6F5 }) (fun t => (t.seq, t.res, t.env.seqModeIn.taken)) =
      some (⟨0, false⟩, 1, 0) ∧
    after (exec .sstep { shifter 1 true 3 800 true with conn := ⟨.unplug, false, 0, 250⟩ })
      (fun t => (t.seq, t.res, t.env.seqModeIn.taken)) = some (⟨0, false⟩, 1, 0) := by decide
/-- An UPDATE that ends in sequential mode, on its first cycle. -/
theorem test_witness_SequentialModeSuppressesTheGear :
    after (exec .update (everySample true State.reset)) (fun t => (t.seq.active, t.gear, t.flags.chg)) =
      some (true, ⟨0, 0, false⟩, true) ∧ State.reset.seq.active = false := by decide

/-! The bus controller. -/

theorem test_witness_BserviceReadsTheButtonWord :
    (bus 0 false 1).cfg[4] = true ∧ (bus 0 false 1).conn.state = .connected := by decide
theorem test_witness_BserviceReleasesWhenNotConnected :
    ({ bus 1 true 0 with cfg := 0x6ED } : State).cfg[4] = false ∧
    ({ bus 1 true 0 with conn := ⟨.unplug, false, 0, 250⟩ } : State).conn.state ≠ .connected := by decide
/-- A driven bus that stays driven, and one that is released. -/
theorem test_witness_LinesAreReleasedUnlessConnected :
    (bus 1 true 0).pin.busOe = (bus 1 true 0).srb.driven ∧ (bus 1 true 0).srb.driven = true ∧
    after (exec .bservice (bus 1 true 0)) (·.wireLatch) = some (some true) ∧
    after (exec .bservice { bus 1 true 0 with conn := ⟨.unplug, false, 0, 250⟩ })
      (fun t => (t.wireLatch, t.wireClock, t.wireLed, t.srb.prev)) = some (none, none, none, 1) := by decide
/-- Driven with the LED used, driven without, and not driven. -/
theorem test_witness_BsetledRemembersTheCommand :
    (bus 0 true 0).srb.driven = true ∧ (bus 0 true 0).cfg[5] = true ∧ (bus 0 false 0).srb.driven = false ∧
    ({ bus 0 true 0 with cfg := 0x6DD } : State).cfg[5] = false := by decide
/-- The ends of the range of `n`, for `ButtonQueries`. -/
theorem test_witness_ButtonQueries :
    decode (0x5200 + BitVec.ofNat 16 15) = .ok (.bget 15) ∧ decode (0x5600 + BitVec.ofNat 16 0) = .ok (.brel 0) ∧
    after (exec (.brel 15) (buttons 0 0x8005)) (·.res) = some 1 ∧ after (exec (.bprs 0) (buttons 1 0)) (·.res) = some 1 :=
  by decide

/-! The top level. -/

theorem test_witness_UpdateGoesIdleWhenNotConnected :
    after (exec .update (unplugged [false])) (fun t => (t.conn.state, t.gear, t.flags.chg)) =
      some (.unplug, ⟨0, 3, false⟩, true) := by decide
/-- Two UPDATEs that both end not connected (n = 0). -/
theorem test_witness_IdleUpdatesReportNoChange :
    after (runCommands (List.replicate 1 .update) (unplugged [false, false])) (·.conn.state) = some .unplug ∧
    after (runCommands (List.replicate 2 .update) (unplugged [false, false])) (fun t => (t.conn.state, t.flags.chg)) =
      some (.disconnected, false) := by decide

end Sys2Proof.Tests
end

section
/-! The step between commands (`00_scope.md` R15, `60_exceptions.md` R283). -/

namespace Sys2Proof.Machine

/-- The branch of the step that makes no move, in any state and at either level of `rst_n`. -/
theorem step_eq_next_of_moves_nil {s : State} (hmoves : s.env.moves = []) : step s = .next s := by
  unfold step hostStep
  rw [hmoves]

/-- Settles O11, by the branch of the step that makes no move. -/
theorem nothingHappensBetweenCommands : Obligations.NothingHappensBetweenCommands :=
  fun _ hmoves => step_eq_next_of_moves_nil hmoves

end Sys2Proof.Machine
end

section
/-! The step at a write to `CMD` (`10_state.md` R22, `20_memory.md` R73). -/

namespace Sys2Proof.Machine

@[simp] theorem popMove_env (s : State) : s.popMove.env = { s.env with moves := s.env.moves.tail } := rfl

theorem runCommand_of_decode_ok {cw : CmdWord} {i : Instr} (s : State) (hdecode : decode cw = .ok i) :
    runCommand cw s = exec i s := by
  unfold runCommand
  rw [hdecode]

/-- The branch of the step that runs a command (R22): nothing comes between the write to `CMD` and `runCommand`. -/
theorem step_eq_runCommand_of_write_cmd {s : State} {v : Word} {rest : List HostMove} (hrst : s.env.rstN = true)
    (hmoves : s.env.moves = .write cmdAddr v :: rest) : step s = runCommand (commandWord v) s.popMove := by
  simp [step, hostStep, hmoves, makeMove, hrst, hostWrite]

theorem commandWord_eq_setWidth (v : Word) : commandWord v = v.setWidth 16 :=
  (BitVec.setWidth_eq_extractLsb' (by decide)).symm

theorem commandWord_setWidth (cw : CmdWord) : commandWord (cw.setWidth 32) = cw := by
  simp [commandWord_eq_setWidth]

/-- Settles O5, by the branch of the step that runs a command. -/
theorem stepRunsTheCommandWritten : Obligations.StepRunsTheCommandWritten := by
  intro s v rest i hrst hmoves hdecode _
  have hpop : s.popMove = { s with env := { s.env with moves := rest } } := by
    simp [State.popMove, State.setEnv, hmoves]
  rw [step_eq_runCommand_of_write_cmd hrst hmoves, commandWord_eq_setWidth, runCommand_of_decode_ok _ hdecode, hpop]

theorem decode_of_decodeTableWord {nbits w : Nat} {i : Instr} (h : decodeTableWord nbits w = some i) :
    decode (tableWord nbits w) = .ok i := by
  unfold decodeTableWord at h
  split at h
  · next j hj => rw [hj, Option.some.inj h]
  · cases h

/-- Making the move that places a command gives back the state it was placed in, when `rst_n` was 1 there (log 1). -/
theorem popMove_placeCommand {s : State} (cw : CmdWord) (hrst : s.env.rstN = true) :
    (s.placeCommand cw).popMove = s := by
  simp [State.popMove, State.placeCommand, State.setEnv, ← hrst]

/-- Settles O6, by O5's branch of the step on the state that holds the placed command. -/
theorem stepRunsThePlacedCommand : Obligations.StepRunsThePlacedCommand := by
  intro s w i hrst hdecode
  rw [State.withFetchWord, step_eq_runCommand_of_write_cmd rfl rfl, commandWord_setWidth, popMove_placeCommand _ hrst,
    runCommand_of_decode_ok _ (decode_of_decodeTableWord hdecode)]

end Sys2Proof.Machine
end

section
/-! What the host reads (`10_state.md` R24, R25, R27; `20_memory.md` R72, R74). -/

namespace Sys2Proof.Machine

theorem readWord_of_at_none {s : State} {a : RegAddr} (h : Reg.at a = none) : s.readWord a = 0 := by
  unfold State.readWord
  rw [h]

/-- The addresses to which R27 gives no register. -/
abbrev ReservedAddr (a : RegAddr) : Prop :=
  a = 0x07 ∨ a = 0x0F ∨ a = 0x13 ∨ (0x17 ≤ a ∧ a ≤ 0x1F) ∨ a = 0x27 ∨ a = 0x2B ∨ (0x31 ≤ a ∧ a ≤ 0x37) ∨ 0x46 ≤ a

theorem at_eq_none_of_reserved : ∀ a : RegAddr, ReservedAddr a → Reg.at a = none := by decide

/-- A signed 16-bit register reads as its own value (R27). -/
@[simp] theorem sextHalf_toInt (h : Half) : (sextHalf h).toInt = h.toInt :=
  BitVec.toInt_signExtend_of_le (by decide)

/-- Fields put side by side add up, the upper one at its weight. -/
theorem toNat_append_eq_add {m n : Nat} (x : BitVec m) (y : BitVec n) : (x ++ y).toNat = x.toNat * 2 ^ n + y.toNat := by
  rw [BitVec.toNat_append, ← Nat.shiftLeft_add_eq_or_of_lt y.isLt, Nat.shiftLeft_eq]

/-- The view of R25 as a number: each field at its weight. -/
theorem statusWord_toNat (s : State) : s.statusWord.toNat =
    s.conn.state.code.toNat + 4 * s.conn.level.toNat + 8 * s.isConnected.toNat + 16 * s.srb.driven.toNat
      + 32 * s.srb.ledCmd.toNat + 64 * s.seq.active.toNat + 128 * s.gear.rev.toNat := by
  rw [State.statusWord, BitVec.toNat_setWidth_of_le (by decide)]
  simp only [toNat_append_eq_add, BitVec.toNat_ofBool]
  ring

/-- The view of R24 as a number: each flag at its weight. -/
theorem flagsWord_toNat (f : Flags) : f.word.toNat =
    f.chg.toNat + 2 * f.chgBtn.toNat + 4 * f.chgGear.toNat + 8 * f.chgSeq.toNat + 16 * f.chgAx0.toNat
      + 32 * f.chgAx1.toNat := by
  rw [Flags.word, BitVec.toNat_setWidth_of_le (by decide)]
  simp only [toNat_append_eq_add, BitVec.toNat_ofBool]
  ring

/-- The numbers of R31 for the states of the connection. -/
theorem code_toNat (c : ConnState) : c.code.toNat =
    (match c with
      | .disconnected => 0
      | .plugIn => 1
      | .connected => 2
      | .unplug => 3) := by
  cases c <;> rfl

/-- Settles O9: each mapped address by its view, the reserved ones by `at_eq_none_of_reserved`. -/
theorem registerMapReads : Obligations.RegisterMapReads := by
  intro s
  have hstatus := statusWord_toNat s
  rw [code_toNat] at hstatus
  have hcfg : (s.cfg.setWidth 32).toNat = s.cfg.toNat := BitVec.toNat_setWidth_of_le (by decide)
  have hdpad : (s.dpadMap.setWidth 32).toNat = s.dpadMap.toNat := BitVec.toNat_setWidth_of_le (by decide)
  have hbtn : (s.srb.prev ++ s.srb.cur).toNat = s.srb.cur.toNat + 65536 * s.srb.prev.toNat := by
    rw [toNat_append_eq_add]
    ring
  have hgear (g : GearVal) : (g.signExtend 32).toInt = g.toInt := BitVec.toInt_signExtend_of_le (by decide)
  have hseq : (s.seq.state.signExtend 32).toInt = s.seq.state.toInt := BitVec.toInt_signExtend_of_le (by decide)
  have half (v : Half) : (sextHalf v).toInt = v.toInt := sextHalf_toInt v
  exact ⟨rfl, hstatus, flagsWord_toNat s.flags, hcfg, rfl, rfl, rfl, rfl, rfl, hdpad, hbtn, hgear _, hgear _, hseq,
    half _, half _, half _, half _, half _, half _,
    rfl, rfl, rfl, rfl, rfl, rfl, rfl, half _, half _, half _, half _, half _, half _, half _, half _,
    half _, half _, half _, half _, half _, half _, half _, half _, half _, half _, half _, half _, half _, half _,
    fun a ha => readWord_of_at_none (at_eq_none_of_reserved a ha)⟩

/-- Settles O14, by evaluating the reads on the reset data. -/
theorem registersAfterReset : Obligations.RegistersAfterReset := by
  unfold Obligations.RegistersAfterReset
  decide

end Sys2Proof.Machine
end

section
/-! Everything a command can do (`30_encoding.md` R104): one case per kind of command, from the closed forms of
Laws/Commands.lean. -/

namespace Sys2Proof.Machine

/-- The commands that only answer a question, in `RES` (R126, R144, R149, R182, R206, R228 to R232, R234). -/
def isQuery : Instr → Bool
  | .cisconn | .agetpos _ | .aisinv _ | .gget | .sget | .bget _ | .bchg _ | .bany | .bprs _ | .brel _ | .dpad => true
  | _ => false

theorem Env.sameHostSide.refl (e : Env) : e.sameHostSide e := ⟨rfl, rfl, rfl⟩

theorem Env.sameHostSide.trans {e e' e'' : Env} (h : e.sameHostSide e') (h' : e'.sameHostSide e'') :
    e.sameHostSide e'' := by
  obtain ⟨hmoves, hrst, hrdata⟩ := h
  obtain ⟨hmoves', hrst', hrdata'⟩ := h'
  exact ⟨hmoves.trans hmoves', hrst.trans hrst', hrdata.trans hrdata'⟩

/-- From `s` to `t` all that only the host or a command of its own sets is kept: the host's registers, the stable period, the
LED command, the bounds of the axes and the two calibrations. The host's side is kept and pin events are only added. -/
structure SettingsKept (s t : State) : Prop where
  host : t.arg0 = s.arg0 ∧ t.arg1 = s.arg1 ∧ t.cfg = s.cfg ∧ t.cal = s.cal ∧ t.dpadMap = s.dpadMap
  stable : t.conn.stable = s.conn.stable
  led : t.srb.ledCmd = s.srb.ledCmd
  bounds0 : t.ax0.min = s.ax0.min ∧ t.ax0.max = s.ax0.max
  bounds1 : t.ax1.min = s.ax1.min ∧ t.ax1.max = s.ax1.max
  calibrations : t.gc = s.gc ∧ t.sc = s.sc
  hostSide : t.env.sameHostSide s.env
  events : ∃ ev, t.env.events = s.env.events ++ ev

theorem SettingsKept.trans {s t u : State} (h : SettingsKept s t) (h' : SettingsKept t u) : SettingsKept s u where
  host := by simp [h'.host, h.host]
  stable := h'.stable.trans h.stable
  led := h'.led.trans h.led
  bounds0 := by simp [h'.bounds0, h.bounds0]
  bounds1 := by simp [h'.bounds1, h.bounds1]
  calibrations := by simp [h'.calibrations, h.calibrations]
  hostSide := h'.hostSide.trans h.hostSide
  events := by
    obtain ⟨ev, hev⟩ := h.events
    obtain ⟨ev', hev'⟩ := h'.events
    exact ⟨ev ++ ev', by rw [hev', hev, List.append_assoc]⟩

/-- `Effect s i t`: what the rules of command `i` allow the next state `t` to differ in from `s`. -/
inductive Effect (s : State) : Instr → State → Prop
  | nop : Effect s .nop s
  | query {i : Instr} (hi : isQuery i = true) (v : Word) : Effect s i (s.setRes v)
  | cpoll {c : Conn} {e : Env} (hc : c.stable = s.conn.stable) (he : e.sameHostSide s.env)
      (hev : e.events = s.env.events) : Effect s .cpoll ((s.setConn c).setEnv e)
  | csetsp {period change : Word} {e : Env} (he : e.sameHostSide s.env) (hev : e.events = s.env.events) :
      Effect s .csetsp ((s.setConn { s.conn with stable := period, lastChange := change }).setEnv e)
  | aread (a : Axis) {r : Half} {c : Bool} {e : Env} (he : e.sameHostSide s.env) (hev : e.events = s.env.events) :
      Effect s (.aread a)
        ((((s.setAx a { s.ax a with raw := r }).setEnv e).setFlags (s.flags.withAx a c)).resBool c)
  | asetpos (a : Axis) (r : Half) : Effect s (.asetpos a) (s.setAx a { s.ax a with raw := r })
  | asetinv (a : Axis) (lo hi : Half) : Effect s (.asetinv a) (s.setAx a { s.ax a with min := lo, max := hi })
  | asetcal (a : Axis) (lo hi : Half) : Effect s (.asetcal a) (s.setAx a { s.ax a with min := lo, max := hi })
  | gsetcal (xlo xhi ylo yhi : Half) (g : GearCal) :
      Effect s .gsetcal (((s.setAx0 { s.ax0 with min := xlo, max := xhi }).setAx1
        { s.ax1 with min := ylo, max := yhi }).setGc g)
  | gupdate {x y : Half} {g : Gear} {c0 c1 c : Bool} {e : Env} (he : e.sameHostSide s.env)
      (hev : e.events = s.env.events) :
      Effect s .gupdate ((((((s.setAx0 { s.ax0 with raw := x }).setAx1 { s.ax1 with raw := y }).setGear g).setFlags
        { s.flags with chgAx0 := c0, chgAx1 := c1, chgGear := c }).setEnv e).resBool c)
  | ssetcal (c : SeqCal) : Effect s .ssetcal (s.setSc c)
  | sstep {cur prev : GearVal} {q : Seq} {cg cs : Bool} {e : Env} (he : e.sameHostSide s.env)
      (hev : e.events = s.env.events) :
      Effect s .sstep (((((s.setGear { s.gear with cur := cur, prev := prev }).setEnv e).setSeq q).setFlags
        { s.flags with chgGear := cg, chgSeq := cs }).resBool cs)
  | bservice {w : Half} {d : Bool} {p : Pins} {c : Bool} {e : Env} (he : e.sameHostSide s.env)
      (hev : ∃ ev, e.events = s.env.events ++ ev) :
      Effect s .bservice (((((s.setSrb { s.srb with cur := w, prev := s.srb.cur, driven := d }).setPin p).setEnv
        e).setFlags (s.flags.withBtn c)).resBool c)
  | bsetled {v o : Bool} {e : Env} (he : e.sameHostSide s.env) (hev : ∃ ev, e.events = s.env.events ++ ev) :
      Effect s .bsetled (((s.setSrb { s.srb with ledCmd := v }).setPin { s.pin with ledO := o }).setEnv e)
  | update {t : State} (hkept : SettingsKept s t) : Effect s .update t

/-- SSTEP writes two flags at most (R203). -/
theorem seqFlags_eq (s : State) :
    ∃ cg, s.seqFlags = { s.flags with chgGear := cg, chgSeq := seqChanged s.seq.state.toInt s.seqNext.toInt } := by
  unfold State.seqFlags
  split
  · exact ⟨false, rfl⟩
  · exact ⟨s.flags.chgGear, rfl⟩

theorem gupdate_effect (s : State) : Effect s .gupdate (gupdate s) := by
  obtain ⟨x, y, g, rev, c0, c1, e, h, -, -, he, hev⟩ := gupdate_touches s
  rw [h]
  exact .gupdate he hev

theorem cpoll_effect (s : State) : Effect s .cpoll (cpoll s) := by
  obtain ⟨c, e, h, hc, he, hev⟩ := cpoll_touches s
  rw [h]
  exact .cpoll hc he hev

theorem bservice_effect (s : State) : Effect s .bservice (bservice s) := by
  obtain ⟨w, p, e, h, -, he, hev⟩ := bservice_touches s
  rw [h]
  exact .bservice he hev

theorem sstep_effect (s : State) : Effect s .sstep (sstep s) := by
  obtain ⟨g, e, h, hg, he, hev⟩ := sstep_touches s
  obtain ⟨cg, hf⟩ := seqFlags_eq s
  have hgear : g = { s.gear with cur := g.cur, prev := g.prev } := by
    rcases hg with ⟨-, rfl⟩ | ⟨-, rfl⟩ <;> rfl
  rw [h, hf, hgear]
  exact .sstep he hev

/-- The four commands that UPDATE calls write no setting (R262). -/
theorem Effect.settingsKept {i : Instr} {s t : State} (h : Effect s i t)
    (hi : i = .cpoll ∨ i = .bservice ∨ i = .gupdate ∨ i = .sstep) : SettingsKept s t := by
  cases h with
  | cpoll hc he hev => constructor <;> simp [hc, he, hev]
  | bservice he hev => constructor <;> simp [he, hev, State.resBool]
  | gupdate he hev => constructor <;> simp [he, hev, State.resBool]
  | sstep he hev => constructor <;> simp [he, hev, State.resBool]
  | query hq => rcases hi with rfl | rfl | rfl | rfl <;> cases hq
  | _ => simp at hi

/-- The flags and `RES` are no settings. -/
theorem SettingsKept.report {s t : State} (h : SettingsKept s t) (f : Flags) (b : Bool) :
    SettingsKept s ((t.setFlags f).resBool b) :=
  ⟨h.host, h.stable, h.led, h.bounds0, h.bounds1, h.calibrations, h.hostSide, h.events⟩

theorem updateCalls_settingsKept (s : State) : SettingsKept s (updateCalls s) :=
  (((cpoll_effect s).settingsKept (by simp)).trans ((bservice_effect _).settingsKept (by simp))).trans
    (((gupdate_effect _).settingsKept (by simp)).trans ((sstep_effect _).settingsKept (by simp)))

theorem update_effect (s : State) : ∃ t, exec .update s = .next t ∧ Effect s .update t :=
  ⟨_, rfl, .update ((updateCalls_settingsKept s).report _ _)⟩

/-- A new stable period may back-date the last change, and writes nothing else (R125). -/
theorem restabled_eq (c : Conn) (t now : Word) : ∃ change, c.restabled t now = { c with stable := t, lastChange := change } := by
  unfold Conn.restabled
  split
  · exact ⟨now - t, rfl⟩
  · exact ⟨c.lastChange, rfl⟩

theorem csetsp_effect (s : State) : ∃ t, exec .csetsp s = .next t ∧ Effect s .csetsp t := by
  refine ⟨_, rfl, ?_⟩
  split
  · obtain ⟨change, hrestabled⟩ := restabled_eq s.conn s.argStable s.nowMs
    rw [hrestabled]
    exact .csetsp ⟨rfl, rfl, rfl⟩ rfl
  · exact Effect.csetsp (s := s) (period := s.argStable) (change := s.conn.lastChange) (e := s.env) (.refl s.env) rfl

theorem setAx_ax (s : State) (a : Axis) : s.setAx a (s.ax a) = s := by cases a <;> rfl

theorem asetinv_effect (s : State) (a : Axis) : ∃ t, exec (.asetinv a) s = .next t ∧ Effect s (.asetinv a) t := by
  refine ⟨_, rfl, ?_⟩
  split
  · exact .asetinv a _ _
  · have hkept := Effect.asetinv (s := s) a (s.ax a).min (s.ax a).max
    rwa [setAx_ax] at hkept

theorem bsetled_effect (s : State) : ∃ t, exec .bsetled s = .next t ∧ Effect s .bsetled t := by
  refine ⟨_, rfl, ?_⟩
  split
  · exact .bsetled ⟨rfl, rfl, rfl⟩ ⟨[.led s.argLed], rfl⟩
  · exact Effect.bsetled (s := s) (v := s.argLed) (o := s.pin.ledO) (e := s.env) (.refl s.env)
      ⟨[], (List.append_nil _).symm⟩

theorem aread_effect (s : State) (a : Axis) : Effect s (.aread a) (aread a s) := by
  obtain ⟨r, c, e, h, he, hev⟩ := aread_touches s a
  rw [h]
  exact .aread a he hev

/-- Every command completes (R280), and in a state that its rules allow. -/
theorem exec_completes : ∀ (i : Instr) (s : State), ∃ t, exec i s = .next t ∧ Effect s i t
  | .nop, _ => ⟨_, rfl, .nop⟩
  | .update, s => update_effect s
  | .cpoll, s => ⟨_, rfl, cpoll_effect s⟩
  | .csetsp, s => csetsp_effect s
  | .cisconn, _ => ⟨_, rfl, .query rfl _⟩
  | .aread a, s => ⟨_, rfl, aread_effect s a⟩
  | .agetpos _, _ => ⟨_, rfl, .query rfl _⟩
  | .asetpos a, s => ⟨_, rfl, .asetpos a s.argRaw⟩
  | .asetinv a, s => asetinv_effect s a
  | .asetcal a, s => ⟨_, rfl, .asetcal a s.argMin s.argMax⟩
  | .aisinv _, _ => ⟨_, rfl, .query rfl _⟩
  | .gsetcal, _ => ⟨_, rfl, .gsetcal _ _ _ _ _⟩
  | .gupdate, s => ⟨_, rfl, gupdate_effect s⟩
  | .gget, _ => ⟨_, rfl, .query rfl _⟩
  | .ssetcal, s => ⟨_, rfl, .ssetcal s.cal.seqCal⟩
  | .sstep, s => ⟨_, rfl, sstep_effect s⟩
  | .sget, _ => ⟨_, rfl, .query rfl _⟩
  | .bservice, s => ⟨_, rfl, bservice_effect s⟩
  | .bsetled, s => bsetled_effect s
  | .bget _, _ => ⟨_, rfl, .query rfl _⟩
  | .bchg _, _ => ⟨_, rfl, .query rfl _⟩
  | .bany, _ => ⟨_, rfl, .query rfl _⟩
  | .bprs _, _ => ⟨_, rfl, .query rfl _⟩
  | .brel _, _ => ⟨_, rfl, .query rfl _⟩
  | .dpad, _ => ⟨_, rfl, .query rfl _⟩

theorem effect_of_exec {i : Instr} {s t : State} (h : exec i s = .next t) : Effect s i t := by
  obtain ⟨t', ht', heffect⟩ := exec_completes i s
  rw [h] at ht'
  injection ht' with ht
  exact ht ▸ heffect

/-- No command changes the host's side of the world (R80, R81). -/
theorem Effect.sameHostSide {i : Instr} {s t : State} (h : Effect s i t) : t.env.sameHostSide s.env := by
  cases h with
  | nop => exact .refl _
  | query => exact .refl _
  | asetpos a | asetinv a | asetcal a => cases a <;> exact .refl _
  | gsetcal | ssetcal => exact .refl _
  | aread a he => exact he
  | cpoll _ he => exact he
  | csetsp he | gupdate he | sstep he | bservice he | bsetled he => exact he
  | update hkept => exact hkept.hostSide

end Sys2Proof.Machine
end

section
/-! The frame of all 25 commands (`10_state.md` R21, R24; `30_encoding.md` R103, R104). -/

namespace Sys2Proof.Machine

/-- Settles O18, by cases on what the command can do. -/
theorem onlyItsCommandsWriteAnElement : Obligations.OnlyItsCommandsWriteAnElement := by
  intro i s t h
  cases effect_of_exec h with
  | nop => simp
  | query hi v => 
    have hres : ¬ (i = .nop ∨ i = .cpoll ∨ i = .csetsp ∨ i = .gsetcal ∨ i = .ssetcal ∨ i = .bsetled ∨
      (∃ a, i = .asetpos a ∨ i = .asetinv a ∨ i = .asetcal a)) := by
      rintro (rfl | rfl | rfl | rfl | rfl | rfl | ⟨a, rfl | rfl | rfl⟩) <;> cases hi
    simp [hres]
  | cpoll hc => simp [hc]
  | csetsp => simp
  | aread a => cases a <;> simp [State.setAx, State.ax, Flags.withAx, State.resBool]
  | asetpos a => cases a <;> simp [State.setAx, State.ax]
  | asetinv a => cases a <;> simp [State.setAx, State.ax]
  | asetcal a => cases a <;> simp [State.setAx, State.ax]
  | gsetcal => simp
  | gupdate => simp [State.resBool]
  | ssetcal => simp
  | sstep => simp [State.resBool]
  | bservice => simp [State.resBool, Flags.withBtn]
  | bsetled => simp
  | update hkept => simp [hkept.host, hkept.stable, hkept.led, hkept.bounds0, hkept.bounds1, hkept.calibrations]

end Sys2Proof.Machine
end

section
/-! The invariants of R43 and their companions (`10_state.md` R36, R38, R43; `45_srb.md` R222 to R224;
`70_reset_and_hazards.md` R300): they hold at reset and every step keeps them. While `rst_n` is 1 they fall into four parts,
one per unit of the block; each command keeps the part of the unit it works on and leaves the others alone. -/

namespace Sys2Proof.Machine

/-- R43 (a) -/
def Conn.LevelAgrees (c : Conn) : Prop := c.level = true ↔ c.state = .plugIn ∨ c.state = .connected

/-- R43 (b) -/
def Gear.InRange (g : Gear) : Prop := (-1 ≤ g.cur.toInt ∧ g.cur.toInt ≤ 6) ∧ (-1 ≤ g.prev.toInt ∧ g.prev.toInt ≤ 6)

/-- R43 (c), and the tri-state at neutral out of sequential mode (R203). -/
def Seq.InRange (q : Seq) : Prop := (-1 ≤ q.state.toInt ∧ q.state.toInt ≤ 1) ∧ (q.active = false → q.state = 0)

/-- R43 (d), and the rest levels of the lines (R222 to R224). -/
def LinesAgree (b : Srb) (p : Pins) : Prop :=
  p.busOe = b.driven ∧ (p.ledOe = true → b.driven = true) ∧ p.clockO = false ∧ (b.driven = true → p.latchO = true)

/-- A coherent state out of reset, by its parts. -/
structure Running (s : State) : Prop where
  conn : s.conn.LevelAgrees
  gear : s.gear.InRange
  seq : s.seq.InRange
  lines : LinesAgree s.srb s.pin
  rstN : s.env.rstN = true

theorem running_iff {s : State} : Running s ↔ s.Coherent ∧ s.env.rstN = true := by
  constructor
  · rintro ⟨hlevel, ⟨hcur, hprev⟩, ⟨hstate, hidle⟩, ⟨hbus, hled, hclock, hlatch⟩, hrst⟩
    exact ⟨⟨hlevel, hcur, hprev, hstate, hidle, hbus, hled, hclock, hlatch, by simp [hrst]⟩, hrst⟩
  · rintro ⟨⟨hlevel, hcur, hprev, hstate, hidle, hbus, hled, hclock, hlatch, -⟩, hrst⟩
    exact ⟨hlevel, ⟨hcur, hprev⟩, ⟨hstate, hidle⟩, ⟨hbus, hled, hclock, hlatch⟩, hrst⟩

theorem Running.coherent {s : State} (h : Running s) : s.Coherent := (running_iff.mp h).1

/-! The four commands that write an element of these parts, and UPDATE, which calls them. -/

theorem Conn.LevelAgrees.polled {c : Conn} (h : c.LevelAgrees) (lvl : Bool) (now : Word) :
    (c.polled lvl now).LevelAgrees := by
  unfold Conn.LevelAgrees at h ⊢
  obtain ⟨-, -, hp⟩ | ⟨-, -, hp⟩ | ⟨hlvl, hon, -, hp⟩ | ⟨-, -, -, hp⟩ | ⟨hlvl, hoff, -, hp⟩ | ⟨-, -, -, hp⟩ :=
    polled_cases c lvl now
  · simp [hp]
  · simp [hp]
  · rw [hp]
    simp [← hlvl, hon]
  · rwa [hp]
  · rw [hp]
    simp [← hlvl, hoff]
  · rwa [hp]

/-- CPOLL leaves the monitor alone or polls it (R122). -/
theorem cpoll_conn (s : State) : (cpoll s).conn = s.conn ∨ ∃ lvl now, (cpoll s).conn = s.conn.polled lvl now := by
  have hafter : s.afterDetLevel.conn = s.conn := by
    unfold State.afterDetLevel
    split <;> rfl
  unfold cpoll
  split
  · exact .inl hafter
  · exact .inr ⟨_, _, rfl⟩

theorem Running.cpoll {s : State} (h : Running s) : Running (cpoll s) := by
  obtain ⟨hconn, hgear, hseq, hlines, hrst⟩ := h
  have hlevel : (Machine.cpoll s).conn.LevelAgrees := by
    obtain hkept | ⟨lvl, now, hpolled⟩ := cpoll_conn s
    · rwa [hkept]
    · rw [hpolled]
      exact hconn.polled lvl now
  obtain ⟨c, e, ht, -, ⟨-, hrst', -⟩, -⟩ := cpoll_touches s
  rw [ht] at hlevel ⊢
  exact ⟨hlevel, hgear, hseq, hlines, hrst'.trans hrst⟩

theorem Running.bservice {s : State} (h : Running s) : Running (bservice s) := by
  obtain ⟨hconn, hgear, hseq, ⟨hbus, hled, hclock, hlatch⟩, hrst⟩ := h
  obtain ⟨w, p, e, ht, hpath, ⟨-, hrst', -⟩, -⟩ := bservice_touches s
  have hlines : LinesAgree { s.srb with cur := w, prev := s.srb.cur, driven := s.busOn } p := by
    obtain ⟨hon, hp, hp', hdriven⟩ | ⟨hoff, -, hp, hp', hdriven⟩ := hpath
    · have hbusOe : p.busOe = true := by
        obtain ⟨hd, hkept, -⟩ | ⟨-, hset⟩ := hdriven
        · rw [hkept, hbus, hd]
        · exact hset
      exact ⟨hbusOe.trans hon.symm, fun _ => hon, hp', fun _ => hp⟩
    · have hoffOe : p.busOe = false ∧ p.ledOe = false := by
        obtain ⟨-, hbusOe, hledOe⟩ | ⟨hd, rfl⟩ := hdriven
        · exact ⟨hbusOe, hledOe⟩
        · exact ⟨hbus.trans hd, by simpa [hd] using hled⟩
      exact ⟨hoffOe.1.trans hoff.symm, by simp [hoffOe.2], hp'.trans hclock, by simp [hoff]⟩
  rw [ht]
  constructor
  · simpa [State.resBool] using hconn
  · simpa [State.resBool] using hgear
  · simpa [State.resBool] using hseq
  · simpa [State.resBool] using hlines
  · simpa [State.resBool] using hrst'.trans hrst

theorem Running.gupdate {s : State} (h : Running s) : Running (gupdate s) := by
  obtain ⟨hconn, ⟨hcur, -⟩, hseq, hlines, hrst⟩ := h
  obtain ⟨x, y, g, rev, c0, c1, e, ht, hg, -, ⟨-, hrst', -⟩, -⟩ := gupdate_touches s
  have hgear : Gear.InRange { cur := toGearVal g, prev := s.gear.cur, rev := rev } := by
    refine ⟨?_, hcur⟩
    rwa [toGearVal_toInt hg]
  rw [ht]
  constructor
  · simpa [State.resBool] using hconn
  · simpa [State.resBool] using hgear
  · simpa [State.resBool] using hseq
  · simpa [State.resBool] using hlines
  · simpa [State.resBool] using hrst'.trans hrst

/-- The tri-state of the next cycle is in range, and neutral out of sequential mode (R203). -/
theorem seqNext_inRange (s : State) : Seq.InRange { state := s.seqNext, active := s.seqMode } := by
  unfold Seq.InRange State.seqNext
  cases s.seqMode
  · simp
  · rcases seqNext_range s.sc s.seq.state s.ax1.raw.toInt with h | h | h <;> simp [h]

theorem Running.sstep {s : State} (h : Running s) : Running (sstep s) := by
  obtain ⟨hconn, hgear, hseq, hlines, hrst⟩ := h
  obtain ⟨g, e, ht, hg, ⟨-, hrst', -⟩, -⟩ := sstep_touches s
  have hgear' : g.InRange := by
    obtain ⟨-, rfl⟩ | ⟨-, rfl⟩ := hg
    · exact hgear
    · refine ⟨by simp, ?_⟩
      cases s.seq.active
      · simp
      · exact hgear.1
  rw [ht]
  constructor
  · simpa [State.resBool] using hconn
  · simpa [State.resBool] using hgear'
  · simpa [State.resBool] using seqNext_inRange s
  · simpa [State.resBool] using hlines
  · simpa [State.resBool] using hrst'.trans hrst

/-- The flags and `RES` are in none of the parts. -/
theorem Running.report {s : State} (h : Running s) (f : Flags) (b : Bool) : Running ((s.setFlags f).resBool b) :=
  ⟨h.conn, h.gear, h.seq, h.lines, h.rstN⟩

theorem Running.update {s t : State} (h : Running s) (ht : exec .update s = .next t) : Running t := by
  injection ht with ht
  exact ht ▸ h.cpoll.bservice.gupdate.sstep.report _ _

/-! Every command, and every step. -/

/-- The five commands above keep their parts; the frame (`onlyItsCommandsWriteAnElement`) covers the others. -/
theorem Running.exec {i : Instr} {s t : State} (h : Running s) (ht : exec i s = .next t) : Running t := by
  by_cases hupdate : i = .update
  · subst hupdate; exact h.update ht
  by_cases hcpoll : i = .cpoll
  · subst hcpoll; injection ht with ht; exact ht ▸ h.cpoll
  by_cases hbservice : i = .bservice
  · subst hbservice; injection ht with ht; exact ht ▸ h.bservice
  by_cases hgupdate : i = .gupdate
  · subst hgupdate; injection ht with ht; exact ht ▸ h.gupdate
  by_cases hsstep : i = .sstep
  · subst hsstep; injection ht with ht; exact ht ▸ h.sstep
  obtain ⟨-, -, -, hbus, -, -, hgear, -, hseq, -, -, -, -, -, -, -, -, -, hconn, -⟩ :=
    onlyItsCommandsWriteAnElement i s t ht
  obtain ⟨-, -, -, hdriven, hlatch, hclock, hbusOe, hledOe⟩ := hbus hupdate hbservice
  obtain ⟨hgear, -⟩ := hgear hupdate hgupdate hsstep
  obtain ⟨hseq, -⟩ := hseq hupdate hsstep
  obtain ⟨hstate, hlevel⟩ := hconn hupdate hcpoll
  obtain ⟨-, hrst, -⟩ := (effect_of_exec ht).sameHostSide
  exact ⟨by simpa [Conn.LevelAgrees, hstate, hlevel] using h.conn, hgear ▸ h.gear, hseq ▸ h.seq,
    by simpa [LinesAgree, hdriven, hlatch, hclock, hbusOe, hledOe] using h.lines, hrst.trans h.rstN⟩

/-- A host write stores in one of the registers the host sets, and in nothing that the invariants speak of (R73, R74). -/
theorem writeReg_frame (s : State) (r : Reg) (v : Word) : (s.writeReg r v).conn = s.conn ∧ (s.writeReg r v).gear = s.gear ∧
    (s.writeReg r v).seq = s.seq ∧ (s.writeReg r v).srb = s.srb ∧ (s.writeReg r v).pin = s.pin ∧
    (s.writeReg r v).env = s.env := by
  cases r <;> exact ⟨rfl, rfl, rfl, rfl, rfl, rfl⟩

theorem Running.writeWord {s : State} (h : Running s) (a : RegAddr) (v : Word) : Running (s.writeWord a v) := by
  unfold State.writeWord
  split
  next r _ =>
    obtain ⟨hconn, hgear, hseq, hsrb, hpin, henv⟩ := writeReg_frame s r v
    exact ⟨hconn ▸ h.conn, hgear ▸ h.gear, hseq ▸ h.seq, by rw [hsrb, hpin]; exact h.lines, henv ▸ h.rstN⟩
  next => exact h

/-- The invariants hold of the reset values in any world, at either level of `rst_n` (R42, R43). -/
theorem resetIn_coherent (e : Env) : (State.resetIn e).Coherent where
  level := by simp [State.resetIn]
  gearCur := by simp [State.resetIn]
  gearPrev := by simp [State.resetIn]
  seqState := by simp [State.resetIn]
  seqIdle := fun _ => rfl
  busOe := rfl
  ledOe := by simp [State.resetIn]
  clockLow := rfl
  latchHigh := by simp [State.resetIn]
  held := fun _ => rfl

theorem Running.setEnv {s : State} (h : Running s) {e : Env} (he : e.rstN = true) : Running (s.setEnv e) :=
  ⟨h.conn, h.gear, h.seq, h.lines, he⟩

theorem Running.hostRead {s : State} (h : Running s) (a : RegAddr) : Running (hostRead a s) := h.setEnv h.rstN

/-- Driving `rst_n` either finds it at 1 and leaves it there, or gives the reset values (R300). -/
theorem driveReset_cases (level : Bool) (s : State) :
    (s.env.rstN = true ∧ driveReset level s = s) ∨ ∃ e, driveReset level s = State.resetIn e := by
  unfold driveReset
  split
  next h => exact .inl ⟨h.2, rfl⟩
  next => exact .inr ⟨_, rfl⟩

/-- Settles O16: `State.reset` is the reset values in the world at reset. -/
theorem resetIsCoherent : Obligations.ResetIsCoherent := resetIn_coherent Env.start

/-- Settles O15, by cases on what a step can do: a reset drive gives the reset values, every other move that is answered
finds `rst_n` at 1. -/
theorem stepKeepsCoherence : Obligations.StepKeepsCoherence := by
  intro s t h hstep
  have hpop (hrst : s.env.rstN = true) : Running s.popMove := (running_iff.mpr ⟨h, hrst⟩).setEnv hrst
  obtain ⟨-, rfl⟩ | ⟨l, -, -, rfl⟩ | ⟨a, -, -, hrst, rfl⟩ | ⟨a, v, -, -, hrst, -, rfl⟩ | ⟨v, -, i, -, hrst, -, hexec⟩ |
    ⟨v, -, e, -, hrst, -, rfl⟩ := step_cases hstep
  · exact h
  · obtain ⟨hrst, hkept⟩ | ⟨e, hreset⟩ := driveReset_cases l s.popMove
    · rw [hkept]
      exact (hpop hrst).coherent
    · rw [hreset]
      exact resetIn_coherent e
  · exact ((hpop hrst).hostRead a).coherent
  · exact ((hpop hrst).writeWord a v).coherent
  · exact ((hpop hrst).exec hexec).coherent
  · exact (hpop hrst).coherent

end Sys2Proof.Machine
end

section
/-! A port that `CFG` says is unused has no effect (`10_state.md` R26, R41; `20_memory.md` R76). One argument serves all six
ports: what the environment answers is changed by any `r` that the used ports, the clock and the pin events do not see
(`Unseen`), and each command gives the same next state up to that change. -/

namespace Sys2Proof.Machine

/-- The state in a world changed by `r`. -/
def State.refeed (r : Env → Env) (s : State) : State := s.setEnv (r s.env)

/-- A block configured by `cfg` does not see the change `r`: the clock, the pin events and every port that `cfg` says is used
give the same samples with the world changed, and go on alike. -/
structure Unseen (cfg : BitVec 11) (r : Env → Env) : Prop where
  nowMs (s : State) : (s.refeed r).nowMs = s.nowMs ∧ (s.refeed r).takeNowMs = s.takeNowMs.refeed r
  emit (s : State) (ev : PinEvent) : (s.refeed r).emit ev = (s.emit ev).refeed r
  detIn (s : State) : cfg[0] = true → (s.refeed r).detIn = s.detIn ∧ (s.refeed r).takeDetIn = s.takeDetIn.refeed r
  revIn (s : State) : cfg[2] = true → (s.refeed r).revIn = s.revIn ∧ (s.refeed r).takeRevIn = s.takeRevIn.refeed r
  seqModeIn (s : State) : cfg[3] = true →
    (s.refeed r).seqModeIn = s.seqModeIn ∧ (s.refeed r).takeSeqModeIn = s.takeSeqModeIn.refeed r
  srData (s : State) : cfg[4] = true → (s.refeed r).srData = s.srData ∧ (s.refeed r).takeSrData = s.takeSrData.refeed r
  ain0 (s : State) : cfg[6] = true → (s.refeed r).ain .x = s.ain .x ∧ (s.refeed r).takeAin .x = (s.takeAin .x).refeed r
  ain1 (s : State) : cfg[7] = true → (s.refeed r).ain .y = s.ain .y ∧ (s.refeed r).takeAin .y = (s.takeAin .y).refeed r

section Refeed

variable {r : Env → Env} {s : State}

/-! What each port gives when it is read only if used, and the state after it. -/

theorem detLevel_refeed (hr : Unseen s.cfg r) : (s.refeed r).detLevel = s.detLevel := by
  have hused : (s.refeed r).detEn = s.detEn := rfl
  unfold State.detLevel
  rw [hused]
  split
  next hen =>
    rw [(hr.detIn s hen).1]
    rfl
  next => rfl

theorem afterDetLevel_refeed (hr : Unseen s.cfg r) : (s.refeed r).afterDetLevel = s.afterDetLevel.refeed r := by
  have hused : (s.refeed r).detEn = s.detEn := rfl
  unfold State.afterDetLevel
  rw [hused]
  split
  next hen => exact (hr.detIn s hen).2
  next => rfl

theorem ain_refeed (hr : Unseen s.cfg r) {a : Axis} (hen : s.axEn a = true) :
    (s.refeed r).ain a = s.ain a ∧ (s.refeed r).takeAin a = (s.takeAin a).refeed r := by
  cases a with
  | x => exact hr.ain0 s hen
  | y => exact hr.ain1 s hen

theorem revSnapshot_refeed (hr : Unseen s.cfg r) : (s.refeed r).revSnapshot = s.revSnapshot := by
  have hused : (s.refeed r).revEn = s.revEn := rfl
  unfold State.revSnapshot
  rw [hused]
  split
  next hen => exact (hr.revIn s hen).1
  next => rfl

theorem afterRevSnapshot_refeed (hr : Unseen s.cfg r) : (s.refeed r).afterRevSnapshot = s.afterRevSnapshot.refeed r := by
  have hused : (s.refeed r).revEn = s.revEn := rfl
  unfold State.afterRevSnapshot
  rw [hused]
  split
  next hen => exact (hr.revIn s hen).2
  next => rfl

theorem seqEn_of_seqSampled (hsampled : s.seqSampled = true) : s.seqEn = true := by
  simp only [State.seqSampled, Bool.and_eq_true] at hsampled
  exact hsampled.1

theorem seqMode_refeed (hr : Unseen s.cfg r) : (s.refeed r).seqMode = s.seqMode := by
  have hused : (s.refeed r).seqSampled = s.seqSampled := rfl
  unfold State.seqMode
  rw [hused]
  split
  next hen => exact (hr.seqModeIn s (seqEn_of_seqSampled hen)).1
  next => rfl

theorem afterSeqMode_refeed (hr : Unseen s.cfg r) : (s.refeed r).afterSeqMode = s.afterSeqMode.refeed r := by
  have hused : (s.refeed r).seqSampled = s.seqSampled := rfl
  unfold State.afterSeqMode
  rw [hused]
  split
  next hen => exact (hr.seqModeIn s (seqEn_of_seqSampled hen)).2
  next => rfl

/-! The bus: pin events, and the shift, which is made only when `SRB_EN` says that `sr_data` is used. -/

section Bus

variable {cfg : BitVec 11} (hr : Unseen cfg r)

include hr

theorem writeLatch_refeed (s : State) (v : Bool) : (s.refeed r).writeLatch v = (s.writeLatch v).refeed r :=
  hr.emit (s.setPin { s.pin with latchO := v }) (.latch v)

theorem writeClock_refeed (s : State) (v : Bool) : (s.refeed r).writeClock v = (s.writeClock v).refeed r :=
  hr.emit (s.setPin { s.pin with clockO := v }) (.clock v)

theorem writeLed_refeed (s : State) (v : Bool) : (s.refeed r).writeLed v = (s.writeLed v).refeed r :=
  hr.emit (s.setPin { s.pin with ledO := v }) (.led v)

theorem enableBus_refeed (s : State) (e : Bool) : (s.refeed r).enableBus e = (s.enableBus e).refeed r :=
  hr.emit (s.setPin { s.pin with busOe := e }) (.busEnable e)

theorem enableLed_refeed (s : State) (e : Bool) : (s.refeed r).enableLed e = (s.enableLed e).refeed r :=
  hr.emit (s.setPin { s.pin with ledOe := e }) (.ledEnable e)

theorem driveLed_refeed (s : State) : (s.refeed r).driveLed = s.driveLed.refeed r := by
  have hused : (s.refeed r).ledEn = s.ledEn := rfl
  have hcmd : (s.refeed r).srb.ledCmd = s.srb.ledCmd := rfl
  unfold State.driveLed
  rw [hused, hcmd, writeLed_refeed hr, enableLed_refeed hr]
  split <;> rfl

theorem busDrive_refeed (s : State) : (s.refeed r).busDrive = s.busDrive.refeed r := by
  unfold State.busDrive
  rw [writeLatch_refeed hr, writeClock_refeed hr, enableBus_refeed hr, driveLed_refeed hr]
  rfl

theorem busRelease_refeed (s : State) : (s.refeed r).busRelease = s.busRelease.refeed r := by
  unfold State.busRelease
  rw [enableBus_refeed hr, enableLed_refeed hr]
  rfl

theorem busReady_refeed (s : State) : (s.refeed r).busReady = s.busReady.refeed r := by
  have hon : (s.refeed r).busOn = s.busOn := rfl
  have hdriven : (s.refeed r).srb.driven = s.srb.driven := rfl
  unfold State.busReady
  rw [hon, hdriven, busDrive_refeed hr, busRelease_refeed hr]
  split <;> split <;> rfl

theorem latchPulse_refeed (s : State) : (s.refeed r).latchPulse = s.latchPulse.refeed r := by
  unfold State.latchPulse
  simp only [hold_eq, writeLatch_refeed hr]

variable (hused : cfg[4] = true)

include hused

theorem shiftBit_refeed (s : State) : (s.refeed r).shiftBit = s.shiftBit.refeed r := by
  unfold State.shiftBit
  rw [writeClock_refeed hr, (hr.srData _ hused).2, writeClock_refeed hr]
  rfl

/-- Iteration by iteration `ShiftIn` reads the same word (R224). -/
theorem shiftLoop_refeed (k : Nat) (w : Half) (s : State) :
    shiftLoop k w (s.refeed r) = ((shiftLoop k w s).1, (shiftLoop k w s).2.refeed r) := by
  induction k generalizing w s with
  | zero => rfl
  | succ k ih =>
    unfold shiftLoop
    rw [writeClock_refeed hr, (hr.srData _ hused).1, shiftBit_refeed hr hused, ih]

theorem shiftWord_refeed (s : State) : (s.refeed r).shiftWord = s.shiftWord := by
  unfold State.shiftWord
  rw [latchPulse_refeed hr, shiftLoop_refeed hr hused]

theorem shiftIn_refeed (s : State) : (s.refeed r).shiftIn = s.shiftIn.refeed r := by
  unfold State.shiftIn
  rw [latchPulse_refeed hr, shiftLoop_refeed hr hused, writeClock_refeed hr]

end Bus

theorem srbEn_of_busOn (hon : s.busOn = true) : s.srbEn = true := by
  simp only [State.busOn, Bool.and_eq_true] at hon
  exact hon.1

theorem serviceLines_refeed (hr : Unseen s.cfg r) : (s.refeed r).serviceLines = s.serviceLines.refeed r := by
  have hon : (s.refeed r).busOn = s.busOn := rfl
  unfold State.serviceLines
  rw [hon, busReady_refeed hr]
  split
  next h => exact shiftIn_refeed hr (srbEn_of_busOn h) s.busReady
  next => rfl

theorem serviceWord_refeed (hr : Unseen s.cfg r) : (s.refeed r).serviceWord = s.serviceWord := by
  have hon : (s.refeed r).busOn = s.busOn := rfl
  unfold State.serviceWord
  rw [hon, busReady_refeed hr]
  split
  next h => exact shiftWord_refeed hr (srbEn_of_busOn h) s.busReady
  next => rfl

/-! The commands that sample a pin or show a pin event. -/

theorem cpoll_refeed (hr : Unseen s.cfg r) : cpoll (s.refeed r) = (cpoll s).refeed r := by
  have hconn : (s.refeed r).conn = s.conn := rfl
  obtain ⟨hnow, htake⟩ := hr.nowMs s.afterDetLevel
  unfold cpoll
  rw [detLevel_refeed hr, hconn, afterDetLevel_refeed hr, hnow, htake]
  split <;> rfl

theorem readChanged_refeed (hr : Unseen s.cfg r) (a : Axis) : (s.refeed r).readChanged a = s.readChanged a := by
  have hused : (s.refeed r).axEn a = s.axEn a := by cases a <;> rfl
  have hax : (s.refeed r).ax a = s.ax a := by cases a <;> rfl
  unfold State.readChanged
  rw [hused, hax]
  split
  next hen => rw [(ain_refeed hr hen).1]
  next => rfl

theorem setAx_refeed (r : Env → Env) (s : State) (a : Axis) (v : AxisState) :
    (s.refeed r).setAx a v = (s.setAx a v).refeed r := by
  cases a <;> rfl

theorem sampled_refeed (hr : Unseen s.cfg r) (a : Axis) : (s.refeed r).sampled a = (s.sampled a).refeed r := by
  have hused : (s.refeed r).axEn a = s.axEn a := by cases a <;> rfl
  have hax : (s.refeed r).ax a = s.ax a := by cases a <;> rfl
  unfold State.sampled
  rw [hused, hax]
  split
  next hen =>
    obtain ⟨hsample, htake⟩ := ain_refeed hr hen
    rw [hsample, htake, setAx_refeed]
  next => rfl

theorem aread_refeed (hr : Unseen s.cfg r) (a : Axis) : aread a (s.refeed r) = (aread a s).refeed r := by
  unfold aread
  rw [readChanged_refeed hr, sampled_refeed hr]
  rfl

theorem aread_cfg (s : State) (a : Axis) : (aread a s).cfg = s.cfg := by
  obtain ⟨x, c, e, h, -⟩ := aread_touches s a
  rw [h]
  cases a <;> rfl

theorem decodeGear_refeed (hr : Unseen s.cfg r) : (s.refeed r).decodeGear = s.decodeGear.refeed r := by
  unfold State.decodeGear
  rw [revSnapshot_refeed hr, afterRevSnapshot_refeed hr]
  rfl

theorem gearCycle_refeed (hr : Unseen s.cfg r) : gearCycle (s.refeed r) = (gearCycle s).refeed r := by
  have hconn : (s.refeed r).isConnected = s.isConnected := rfl
  have hx : (aread .x s).cfg = s.cfg := aread_cfg s .x
  have hy : (aread .y (aread .x s)).cfg = s.cfg := (aread_cfg _ .y).trans hx
  unfold gearCycle gearDecode
  rw [hconn, aread_refeed hr, aread_refeed (hx ▸ hr), decodeGear_refeed (hy ▸ hr)]
  split <;> rfl

theorem gupdate_refeed (hr : Unseen s.cfg r) : gupdate (s.refeed r) = (gupdate s).refeed r := by
  unfold gupdate
  rw [gearCycle_refeed hr]
  rfl

theorem seqForce_refeed (r : Env → Env) (s : State) : (s.refeed r).seqForce = s.seqForce.refeed r := by
  have hactive : (s.refeed r).seq.active = s.seq.active := rfl
  unfold State.seqForce
  rw [hactive]
  split <;> rfl

theorem sstep_refeed (hr : Unseen s.cfg r) : sstep (s.refeed r) = (sstep s).refeed r := by
  have hmode := seqMode_refeed hr
  have hnext : (s.refeed r).seqNext = s.seqNext := by
    unfold State.seqNext
    rw [hmode]
    rfl
  have hflags : (s.refeed r).seqFlags = s.seqFlags := by
    unfold State.seqFlags
    rw [hmode, hnext]
    rfl
  have hgear : (s.refeed r).seqGear = s.seqGear.refeed r := by
    unfold State.seqGear
    rw [hmode, afterSeqMode_refeed hr, seqForce_refeed]
    split <;> rfl
  unfold sstep
  rw [hgear, hnext, hmode, hflags]
  rfl

theorem bservice_refeed (hr : Unseen s.cfg r) : bservice (s.refeed r) = (bservice s).refeed r := by
  unfold bservice
  rw [serviceLines_refeed hr, serviceWord_refeed hr]
  rfl

theorem SettingsKept.unseen {t : State} (h : SettingsKept s t) (hr : Unseen s.cfg r) : Unseen t.cfg r := by
  obtain ⟨-, -, hcfg, -⟩ := h.host
  rwa [hcfg]

theorem updateCalls_refeed (hr : Unseen s.cfg r) : updateCalls (s.refeed r) = (updateCalls s).refeed r := by
  have hr1 := ((cpoll_effect s).settingsKept (by simp)).unseen hr
  have hr2 := ((bservice_effect (cpoll s)).settingsKept (by simp)).unseen hr1
  have hr3 := ((gupdate_effect (bservice (cpoll s))).settingsKept (by simp)).unseen hr2
  unfold updateCalls
  rw [cpoll_refeed hr, bservice_refeed hr1, gupdate_refeed hr2, sstep_refeed hr3]

theorem csetsp_refeed (hr : Unseen s.cfg r) :
    ∃ t, exec .csetsp s = .next t ∧ exec .csetsp (s.refeed r) = .next (t.refeed r) := by
  refine ⟨_, rfl, congrArg Host.Outcome.next ?_⟩
  have hconn : (s.refeed r).isConnected = s.isConnected := rfl
  rw [hconn, (hr.nowMs s).1, (hr.nowMs s).2]
  split <;> rfl

theorem asetinv_refeed (r : Env → Env) (s : State) (a : Axis) :
    ∃ t, exec (.asetinv a) s = .next t ∧ exec (.asetinv a) (s.refeed r) = .next (t.refeed r) := by
  refine ⟨_, rfl, congrArg Host.Outcome.next ?_⟩
  have hax : (s.refeed r).ax a = s.ax a := by cases a <;> rfl
  have harg : (s.refeed r).argInvert = s.argInvert := rfl
  rw [hax, harg, setAx_refeed]
  split <;> rfl

theorem bsetled_refeed (hr : Unseen s.cfg r) :
    ∃ t, exec .bsetled s = .next t ∧ exec .bsetled (s.refeed r) = .next (t.refeed r) := by
  refine ⟨_, rfl, congrArg Host.Outcome.next ?_⟩
  have hled : ((s.refeed r).srb.driven = true ∧ (s.refeed r).ledEn = true) = (s.srb.driven = true ∧ s.ledEn = true) := rfl
  simp only [hled]
  split
  next => exact writeLed_refeed hr (s.setSrb { s.srb with ledCmd := s.argLed }) s.argLed
  next => rfl

/-- Every command commutes with a change of the world that the used ports do not see. -/
theorem exec_refeed (hr : Unseen s.cfg r) (i : Instr) :
    ∃ t, exec i s = .next t ∧ exec i (s.refeed r) = .next (t.refeed r) := by
  cases i with
  | update => exact ⟨_, rfl, congrArg Host.Outcome.next (by rw [updateCalls_refeed hr]; rfl)⟩
  | cpoll => exact ⟨_, rfl, congrArg Host.Outcome.next (cpoll_refeed hr)⟩
  | csetsp => exact csetsp_refeed hr
  | aread a => exact ⟨_, rfl, congrArg Host.Outcome.next (aread_refeed hr a)⟩
  | asetpos a | asetcal a => cases a <;> exact ⟨_, rfl, rfl⟩
  | asetinv a => exact asetinv_refeed r s a
  | gupdate => exact ⟨_, rfl, congrArg Host.Outcome.next (gupdate_refeed hr)⟩
  | sstep => exact ⟨_, rfl, congrArg Host.Outcome.next (sstep_refeed hr)⟩
  | bservice => exact ⟨_, rfl, congrArg Host.Outcome.next (bservice_refeed hr)⟩
  | bsetled => exact bsetled_refeed hr
  | agetpos a | aisinv a => cases a <;> exact ⟨_, rfl, rfl⟩
  | nop | cisconn | gsetcal | gget | ssetcal | sget | bget | bchg | bany | bprs | brel | dpad => exact ⟨_, rfl, rfl⟩

end Refeed

/-- Settles O20: `exec_refeed` for another feed at the unused pin, which no other port holds and whose own port is not used. -/
theorem unusedPinsAreNeverRead : Obligations.UnusedPinsAreNeverRead := by
  intro i s t h
  have hcarry {r : Env → Env} (hr : Unseen s.cfg r) : exec i (s.refeed r) = .next (t.refeed r) := by
    obtain ⟨t', ht, hrefed⟩ := exec_refeed hr i
    rw [h] at ht
    injection ht with ht
    rwa [ht]
  have hunused {b : Bool} {p : Prop} (hoff : b = false) (hon : b = true) : p := by simp [hoff] at hon
  refine ⟨fun hoff f => ?_, fun hoff f => ?_, fun hoff f => ?_, fun hoff f => ?_, fun hoff f => ?_, fun hoff f => ?_⟩
  · exact hcarry (r := fun e => { e with detIn := f }) ⟨fun _ => ⟨rfl, rfl⟩, fun _ _ => rfl,
      fun _ => hunused hoff, fun _ _ => ⟨rfl, rfl⟩, fun _ _ => ⟨rfl, rfl⟩,
      fun _ _ => ⟨rfl, rfl⟩, fun _ _ => ⟨rfl, rfl⟩, fun _ _ => ⟨rfl, rfl⟩⟩
  · exact hcarry (r := fun e => { e with revIn := f }) ⟨fun _ => ⟨rfl, rfl⟩, fun _ _ => rfl,
      fun _ _ => ⟨rfl, rfl⟩, fun _ => hunused hoff, fun _ _ => ⟨rfl, rfl⟩,
      fun _ _ => ⟨rfl, rfl⟩, fun _ _ => ⟨rfl, rfl⟩, fun _ _ => ⟨rfl, rfl⟩⟩
  · exact hcarry (r := fun e => { e with seqModeIn := f }) ⟨fun _ => ⟨rfl, rfl⟩, fun _ _ => rfl,
      fun _ _ => ⟨rfl, rfl⟩, fun _ _ => ⟨rfl, rfl⟩, fun _ => hunused hoff,
      fun _ _ => ⟨rfl, rfl⟩, fun _ _ => ⟨rfl, rfl⟩, fun _ _ => ⟨rfl, rfl⟩⟩
  · exact hcarry (r := fun e => { e with srData := f }) ⟨fun _ => ⟨rfl, rfl⟩, fun _ _ => rfl,
      fun _ _ => ⟨rfl, rfl⟩, fun _ _ => ⟨rfl, rfl⟩, fun _ _ => ⟨rfl, rfl⟩,
      fun _ => hunused hoff, fun _ _ => ⟨rfl, rfl⟩, fun _ _ => ⟨rfl, rfl⟩⟩
  · exact hcarry (r := fun e => { e with ain0 := f }) ⟨fun _ => ⟨rfl, rfl⟩, fun _ _ => rfl,
      fun _ _ => ⟨rfl, rfl⟩, fun _ _ => ⟨rfl, rfl⟩, fun _ _ => ⟨rfl, rfl⟩,
      fun _ _ => ⟨rfl, rfl⟩, fun _ => hunused hoff, fun _ _ => ⟨rfl, rfl⟩⟩
  · exact hcarry (r := fun e => { e with ain1 := f }) ⟨fun _ => ⟨rfl, rfl⟩, fun _ _ => rfl,
      fun _ _ => ⟨rfl, rfl⟩, fun _ _ => ⟨rfl, rfl⟩, fun _ _ => ⟨rfl, rfl⟩,
      fun _ _ => ⟨rfl, rfl⟩, fun _ _ => ⟨rfl, rfl⟩, fun _ => hunused hoff⟩

end Sys2Proof.Machine
end

section
/-! What the host's reads and writes do to the register space (`10_state.md` R27; `20_memory.md` R72 to R74, R80). -/

namespace Sys2Proof.Machine

theorem popMove_eq_of_moves_cons {s : State} {m : HostMove} {rest : List HostMove} (hmoves : s.env.moves = m :: rest) :
    s.popMove = { s with env := { s.env with moves := rest } } := by
  simp [State.popMove, State.setEnv, hmoves]

/-- No register shows the world around the block. -/
theorem readWord_popMove (s : State) (a : RegAddr) : s.popMove.readWord a = s.readWord a := rfl

theorem step_eq_hostRead {s : State} {a : RegAddr} {rest : List HostMove} (hrst : s.env.rstN = true)
    (hmoves : s.env.moves = .read a :: rest) : step s = .next (hostRead a s.popMove) := by
  simp [step, hostStep, hmoves, makeMove, hrst]

theorem step_eq_writeWord {s : State} {a : RegAddr} {v : Word} {rest : List HostMove} (hrst : s.env.rstN = true)
    (hmoves : s.env.moves = .write a v :: rest) (ha : a ≠ cmdAddr) : step s = .next (s.popMove.writeWord a v) := by
  simp [step, hostStep, hmoves, makeMove, hrst, hostWrite, ha]

/-- Settles O8, by the branch of the step that answers a read; the word is the one before the move was made. -/
theorem hostReadHasNoSideEffect : Obligations.HostReadHasNoSideEffect := by
  intro s a rest hrst hmoves
  rw [step_eq_hostRead hrst hmoves, hostRead, readWord_popMove, popMove_eq_of_moves_cons hmoves]
  rfl

/-- The formats in which a register stores the word the host writes (R27, R73): whole, its low `n` bits, or its low half as
a signed number. -/
inductive StoreFormat where
  | word
  | low (n : Nat)
  | signedHalf
deriving DecidableEq

/-- What a register of the format reads after `v` was stored in it. -/
def StoreFormat.view : StoreFormat → Word → Word
  | .word, v => v
  | .low n, v => (v.extractLsb' 0 n).setWidth 32
  | .signedHalf, v => sextHalf (lowHalf v)

/-- The format of a read-write register; none for a register that ignores the host's writes (R27, R74). -/
def Reg.storeFormat : Reg → Option StoreFormat
  | .arg0 | .arg1 | .gs0 | .gs1 | .gs2 | .gs3 | .gs4 | .gs5 | .gs6 => some .word
  | .cfg => some (.low 11)
  | .dpadmap => some (.low 16)
  | .gpeng | .gprel | .gpedge | .sqneu | .squp | .sqdn | .sqpeng | .sqprel => some .signedHalf
  | _ => none

theorem readReg_writeReg_same (s : State) {r : Reg} {f : StoreFormat} (v : Word) (hf : r.storeFormat = some f) :
    (s.writeReg r v).readReg r = f.view v := by
  cases r <;> cases hf <;> rfl

theorem writeReg_of_ignored (s : State) {r : Reg} (v : Word) (hf : r.storeFormat = none) : s.writeReg r v = s := by
  cases r with
  | arg0 | arg1 | gs0 | gs1 | gs2 | gs3 | gs4 | gs5 | gs6 | cfg | dpadmap
  | gpeng | gprel | gpedge | sqneu | squp | sqdn | sqpeng | sqprel => cases hf
  | _ => rfl

/-- Each read-write register has a field of its own, so that a write to it leaves every other register alone. -/
theorem readReg_writeReg_of_ne (s : State) {r q : Reg} (v : Word) (hne : q ≠ r) :
    (s.writeReg r v).readReg q = s.readReg q := by
  cases r with
  | arg0 | arg1 | gs0 | gs1 | gs2 | gs3 | gs4 | gs5 | gs6 | cfg | dpadmap
  | gpeng | gprel | gpedge | sqneu | squp | sqdn | sqpeng | sqprel => cases q <;> first | rfl | exact absurd rfl hne
  | _ => rfl

/-- The format of the register at an address; none where the address ignores a write: it is read-only or reserved. -/
def storeFormatAt (a : RegAddr) : Option StoreFormat := (Reg.at a).bind Reg.storeFormat

/-- No register has two addresses (R27). -/
theorem addr_eq_of_at {a : RegAddr} {r : Reg} (hr : Reg.at a = some r) : r.addr = a :=
  (by decide : ∀ a : RegAddr, ∀ r ∈ Reg.at a, r.addr = a) a r (Option.mem_def.mpr hr)

theorem readWord_of_at_some {s : State} {a : RegAddr} {r : Reg} (hr : Reg.at a = some r) : s.readWord a = s.readReg r := by
  unfold State.readWord
  rw [hr]

theorem writeWord_of_at_some {s : State} {a : RegAddr} {v : Word} {r : Reg} (hr : Reg.at a = some r) :
    s.writeWord a v = s.writeReg r v := by
  unfold State.writeWord
  rw [hr]

theorem writeWord_of_at_none {s : State} {a : RegAddr} {v : Word} (hr : Reg.at a = none) : s.writeWord a v = s := by
  unfold State.writeWord
  rw [hr]

theorem readWord_writeWord_same (s : State) {a : RegAddr} {f : StoreFormat} (v : Word) (hf : storeFormatAt a = some f) :
    (s.writeWord a v).readWord a = f.view v := by
  obtain ⟨r, hr, hf⟩ := Option.bind_eq_some_iff.mp hf
  rw [writeWord_of_at_some hr, readWord_of_at_some hr, readReg_writeReg_same s v hf]

theorem writeWord_of_ignored (s : State) {a : RegAddr} (v : Word) (hf : storeFormatAt a = none) : s.writeWord a v = s := by
  cases hr : Reg.at a with
  | none => exact writeWord_of_at_none hr
  | some r => rw [writeWord_of_at_some hr, writeReg_of_ignored s v (Option.bind_eq_none_iff.mp hf r hr)]

theorem readWord_writeWord_of_ne (s : State) {a b : RegAddr} (v : Word) (hne : b ≠ a) :
    (s.writeWord a v).readWord b = s.readWord b := by
  cases hr : Reg.at a with
  | none => rw [writeWord_of_at_none hr]
  | some r =>
    cases hq : Reg.at b with
    | none => rw [readWord_of_at_none hq, readWord_of_at_none hq]
    | some q =>
      have hregs : q ≠ r := fun hsame => hne (by rw [← addr_eq_of_at hq, hsame, addr_eq_of_at hr])
      rw [writeWord_of_at_some hr, readWord_of_at_some hq, readWord_of_at_some hq, readReg_writeReg_of_ne s v hregs]

/-- A write to the register space moves no pin and leaves the world alone. -/
theorem writeWord_frame (s : State) (a : RegAddr) (v : Word) :
    (s.writeWord a v).pin = s.pin ∧ (s.writeWord a v).env = s.env := by
  cases hr : Reg.at a with
  | none => simp [writeWord_of_at_none hr]
  | some r => simp [writeWord_of_at_some hr, writeReg_frame]

/-- The low `n` bits of a word, as a mask. -/
theorem view_low_eq_and (n : Nat) (v : Word) : (StoreFormat.low n).view v = v &&& BitVec.ofNat 32 (2 ^ n - 1) := by
  ext i hi
  simp [StoreFormat.view, ← BitVec.getLsbD_eq_getElem, BitVec.getLsbD_ofNat, hi, Bool.and_comm]

theorem view_signedHalf_toInt (v : Word) : (StoreFormat.signedHalf.view v).toInt = (v.setWidth 16).toInt := by
  rw [StoreFormat.view, sextHalf_toInt, lowHalf, BitVec.setWidth_eq_extractLsb' (by decide)]

/-- The addresses whose register is stored whole (R27). -/
abbrev WordAddr (a : RegAddr) : Prop := a = 0x04 ∨ a = 0x05 ∨ (0x20 ≤ a ∧ a ≤ 0x26)

/-- The addresses whose register is stored as a signed half (R27). -/
abbrev SignedHalfAddr (a : RegAddr) : Prop := (0x28 ≤ a ∧ a ≤ 0x2A) ∨ (0x2C ≤ a ∧ a ≤ 0x30)

theorem storeFormatAt_of_wordAddr : ∀ a : RegAddr, WordAddr a → storeFormatAt a = some .word := by decide

theorem storeFormatAt_of_signedHalfAddr : ∀ a : RegAddr, SignedHalfAddr a → storeFormatAt a = some .signedHalf := by
  decide

/-- The read-only and the reserved addresses (R27, R74). -/
theorem storeFormatAt_of_ignored : ∀ a : RegAddr, ¬ (a = 0x03 ∨ a = 0x04 ∨ a = 0x05 ∨ a = 0x0A ∨ (0x20 ≤ a ∧ a ≤ 0x26) ∨
    (0x28 ≤ a ∧ a ≤ 0x2A) ∨ (0x2C ≤ a ∧ a ≤ 0x30)) → storeFormatAt a = none := by decide

/-- Settles O10: the register at the address has one format or ignores the write, and no other register is touched. -/
theorem hostWriteStoresInItsFormat : Obligations.HostWriteStoresInItsFormat := by
  intro s a v rest hrst hmoves ha
  have hpop := popMove_eq_of_moves_cons hmoves
  obtain ⟨hpin, henv⟩ := writeWord_frame s.popMove a v
  have hstored {f : StoreFormat} (hf : storeFormatAt a = some f) : (s.popMove.writeWord a v).readWord a = f.view v :=
    readWord_writeWord_same s.popMove v hf
  refine ⟨s.popMove.writeWord a v, step_eq_writeWord hrst hmoves ha, ?word, ?cfg, ?dpadmap, ?signedHalf, ?ignored,
    ?others, hpin, henv.trans (congrArg State.env hpop)⟩
  case word => exact fun hword => hstored (storeFormatAt_of_wordAddr a hword)
  case cfg =>
    rintro rfl
    exact (hstored rfl).trans (view_low_eq_and 11 v)
  case dpadmap =>
    rintro rfl
    exact (hstored rfl).trans (view_low_eq_and 16 v)
  case signedHalf =>
    intro hhalf
    rw [hstored (storeFormatAt_of_signedHalfAddr a hhalf), view_signedHalf_toInt]
  case ignored =>
    intro hignored
    rw [writeWord_of_ignored _ v (storeFormatAt_of_ignored a hignored), hpop]
  case others => exact fun b hb => readWord_writeWord_of_ne s.popMove v hb

end Sys2Proof.Machine
end

section
/-! The pin events of a command (`20_memory.md` R77): it adds them after those before it, or shows none. -/

namespace Sys2Proof.Machine

/-- Only the commands that touch the lines show pin events (R77, R221, R226, R262). -/
theorem Effect.adds_events {i : Instr} {s t : State} (h : Effect s i t) :
    ∃ ev, t.env.events = s.env.events ++ ev ∧ (i ≠ .update → i ≠ .bservice → i ≠ .bsetled → ev = []) := by
  cases h with
  | nop | query | gsetcal | ssetcal => exact ⟨[], (List.append_nil _).symm, fun _ _ _ => rfl⟩
  | asetpos a | asetinv a | asetcal a => cases a <;> exact ⟨[], (List.append_nil _).symm, fun _ _ _ => rfl⟩
  | cpoll _ _ hev | csetsp _ hev | aread _ _ hev | gupdate _ hev | sstep _ hev =>
    exact ⟨[], hev.trans (List.append_nil _).symm, fun _ _ _ => rfl⟩
  | update hkept =>
    obtain ⟨ev, hev⟩ := hkept.events
    exact ⟨ev, hev, fun hupdate => absurd rfl hupdate⟩
  | bservice _ hev =>
    obtain ⟨ev, hev⟩ := hev
    exact ⟨ev, hev, fun _ hbservice => absurd rfl hbservice⟩
  | bsetled _ hev =>
    obtain ⟨ev, hev⟩ := hev
    exact ⟨ev, hev, fun _ _ hbsetled => absurd rfl hbsetled⟩

/-- Settles O19: the host's side is kept (`Effect.sameHostSide`) and pin events are only added. -/
theorem commandsOnlyAddPinEvents : Obligations.CommandsOnlyAddPinEvents := by
  intro i s t h
  have heffect := effect_of_exec h
  obtain ⟨hmoves, hrst, hrdata⟩ := heffect.sameHostSide
  exact ⟨hmoves, hrst, hrdata, heffect.adds_events⟩

end Sys2Proof.Machine
end

section
/-! The two fields of the command word (`30_encoding.md` R100) and the operand fields in `k` (R102). -/

namespace Sys2Proof

theorem opcOf_append (o k : BitVec 8) : opcOf (o ++ k) = o := BitVec.extractLsb'_append_eq_left

theorem kOf_append (o k : BitVec 8) : kOf (o ++ k) = k := BitVec.extractLsb'_append_eq_right

theorem opcOf_and (w m : CmdWord) : opcOf (w &&& m) = opcOf w &&& opcOf m := BitVec.extractLsb'_and

theorem kOf_and (w m : CmdWord) : kOf (w &&& m) = kOf w &&& kOf m := BitVec.extractLsb'_and

theorem opcOf_append_kOf (w : CmdWord) : opcOf w ++ kOf w = w :=
  (BitVec.extractLsb'_append_extractLsb'_eq_extractLsb' rfl).trans BitVec.extractLsb'_eq_self

/-- A command word is its two fields (R100). -/
theorem eq_append_iff {w : CmdWord} {o k : BitVec 8} : w = o ++ k ↔ opcOf w = o ∧ kOf w = k := by
  constructor
  · rintro rfl
    exact ⟨opcOf_append o k, kOf_append o k⟩
  · rintro ⟨rfl, rfl⟩
    exact (opcOf_append_kOf w).symm

theorem axisOf_eq_of_kOf (w : CmdWord) : axisOf w = if (kOf w).getLsbD 0 then .y else .x := by
  simp [axisOf, kOf]

theorem buttonOf_eq_of_kOf (w : CmdWord) : buttonOf w = (kOf w).toNat % 16 := by
  simp [buttonOf, kOf, BitVec.extractLsb'_toNat, Nat.mod_mod_of_dvd]

theorem buttonOf_lt (w : CmdWord) : buttonOf w < 16 := (w.extractLsb' 0 4).isLt

theorem axisOf_append_axisByte (o : BitVec 8) (a : Axis) : axisOf (o ++ axisByte a) = a := by
  rw [axisOf_eq_of_kOf, kOf_append]
  cases a <;> rfl

theorem buttonOf_append_buttonByte (o : BitVec 8) {n : Nat} (hn : n < 16) : buttonOf (o ++ buttonByte n) = n := by
  rw [buttonOf_eq_of_kOf, kOf_append, buttonByte, BitVec.toNat_ofNat]
  omega

/-- Format A drops no bit of a `k` whose bits 7:1 are 0 (R102). -/
theorem axisByte_axisOf {w : CmdWord} (hk : kOf w &&& 0xFE = 0) : axisByte (axisOf w) = kOf w := by
  have hbyte : ∀ k : BitVec 8, k &&& 0xFE = 0 → axisByte (if k.getLsbD 0 then .y else .x) = k := by decide
  rw [axisOf_eq_of_kOf, hbyte _ hk]

/-- Format N drops no bit of a `k` whose bits 7:4 are 0 (R102). -/
theorem buttonByte_buttonOf {w : CmdWord} (hk : kOf w &&& 0xF0 = 0) : buttonByte (buttonOf w) = kOf w := by
  have hbyte : ∀ k : BitVec 8, k &&& 0xF0 = 0 → buttonByte (k.toNat % 16) = k := by decide
  rw [buttonOf_eq_of_kOf, hbyte _ hk]

end Sys2Proof
end

section
/-! One row of the opcode map (`30_encoding.md` R101, R102, R104): which words are a row's, and what the row makes of them. -/

namespace Sys2Proof

theorem fits_iff {r : OpRow} {w : CmdWord} : r.fits w = true ↔ w &&& r.mask = r.pattern := beq_iff_eq

/-- A mask that keeps the opcode byte tests the two fields one by one. -/
theorem fits_iff_fields {r : OpRow} {o m : BitVec 8} (hpattern : r.pattern = o ++ 0#8) (hmask : r.mask = 0xFF#8 ++ m)
    {w : CmdWord} : r.fits w = true ↔ opcOf w = o ∧ kOf w &&& m = 0 := by
  have hkeep : opcOf w &&& 0xFF#8 = opcOf w := BitVec.and_allOnes
  rw [fits_iff, hpattern, hmask, eq_append_iff, opcOf_and, kOf_and, opcOf_append, kOf_append, hkeep]
  rfl

theorem rowZ_fits_iff {p : CmdWord} {i : Instr} {w : CmdWord} : (rowZ p i).fits w = true ↔ w = p :=
  fits_iff.trans (Eq.congr_left BitVec.and_allOnes)

theorem rowA_fits_iff {o : BitVec 8} {f : Axis → Instr} {w : CmdWord} :
    (rowA (o ++ 0#8) f).fits w = true ↔ opcOf w = o ∧ kOf w &&& 0xFE = 0 :=
  fits_iff_fields rfl rfl

theorem rowN_fits_iff {o : BitVec 8} {f : Nat → Instr} {w : CmdWord} :
    (rowN (o ++ 0#8) f).fits w = true ↔ opcOf w = o ∧ kOf w &&& 0xF0 = 0 :=
  fits_iff_fields rfl rfl

/-- The row makes a well-formed command of each of its words, and that command's encoding is the word itself. -/
def OpRow.Faithful (r : OpRow) : Prop :=
  ∀ w : CmdWord, r.fits w = true → (r.build w).wellFormed = true ∧ encode (r.build w) = w

theorem rowZ_faithful {p : CmdWord} {i : Instr} (hwf : i.wellFormed = true) (hencode : encode i = p) :
    (rowZ p i).Faithful := by
  intro w hfit
  exact ⟨hwf, hencode.trans (rowZ_fits_iff.mp hfit).symm⟩

theorem rowA_faithful (o : BitVec 8) {f : Axis → Instr} (hwf : ∀ a, (f a).wellFormed = true)
    (hencode : ∀ a, encode (f a) = o ++ axisByte a) : (rowA (o ++ 0#8) f).Faithful := by
  intro w hfit
  obtain ⟨hopc, hk⟩ := rowA_fits_iff.mp hfit
  refine ⟨hwf _, ?_⟩
  calc encode (f (axisOf w)) = o ++ axisByte (axisOf w) := hencode _
    _ = w := (eq_append_iff.mpr ⟨hopc, (axisByte_axisOf hk).symm⟩).symm

theorem rowN_faithful (o : BitVec 8) {f : Nat → Instr} (hwf : ∀ n, (f n).wellFormed = decide (n < 16))
    (hencode : ∀ n, encode (f n) = o ++ buttonByte n) : (rowN (o ++ 0#8) f).Faithful := by
  intro w hfit
  obtain ⟨hopc, hk⟩ := rowN_fits_iff.mp hfit
  refine ⟨(hwf _).trans (decide_eq_true (buttonOf_lt w)), ?_⟩
  calc encode (f (buttonOf w)) = o ++ buttonByte (buttonOf w) := hencode _
    _ = w := (eq_append_iff.mpr ⟨hopc, (buttonByte_buttonOf hk).symm⟩).symm

/-- Some row of the opcode map makes the command of some word of its own. -/
def Instr.IsBuilt (i : Instr) : Prop := ∃ r ∈ opTable, ∃ w : CmdWord, r.fits w = true ∧ r.build w = i

theorem isBuilt_of_rowZ {i : Instr} (hrow : rowZ (encode i) i ∈ opTable) : i.IsBuilt :=
  ⟨_, hrow, encode i, rowZ_fits_iff.mpr rfl, rfl⟩

theorem isBuilt_of_rowA (o : BitVec 8) {f : Axis → Instr} (hrow : rowA (o ++ 0#8) f ∈ opTable) (a : Axis) :
    (f a).IsBuilt := by
  have hfit : (rowA (o ++ 0#8) f).fits (o ++ axisByte a) = true := by
    rw [rowA_fits_iff, opcOf_append, kOf_append]
    cases a <;> exact ⟨rfl, rfl⟩
  exact ⟨_, hrow, _, hfit, congrArg f (axisOf_append_axisByte o a)⟩

theorem isBuilt_of_rowN (o : BitVec 8) {f : Nat → Instr} (hrow : rowN (o ++ 0#8) f ∈ opTable) {n : Nat} (hn : n < 16) :
    (f n).IsBuilt :=
  ⟨_, hrow, _, rowN_fits_iff.mpr (Laws.EncodeFitsRow.button_fits o hn), congrArg f (buttonOf_append_buttonByte o hn)⟩

end Sys2Proof
end

section
/-! The opcode map as a whole (`30_encoding.md` R101, R104): its rows are disjoint, each is faithful to the encoder, and
between them they make every well-formed command. -/

namespace Sys2Proof

theorem opTable_masks_keep_opcode : ∀ r ∈ opTable, opcOf r.mask = 0xFF := by decide

theorem opTable_opcodes_nodup : (opTable.map (fun r => opcOf r.pattern)).Nodup := by decide

theorem opcOf_eq_of_fits {r : OpRow} (hr : r ∈ opTable) {w : CmdWord} (hfit : r.fits w = true) :
    opcOf w = opcOf r.pattern := by
  have hkeep : opcOf w &&& 0xFF = opcOf w := BitVec.and_allOnes
  rw [← fits_iff.mp hfit, opcOf_and, opTable_masks_keep_opcode r hr, hkeep]

theorem opcOf_pattern_eq_of_fits {r r' : OpRow} (hr : r ∈ opTable) (hr' : r' ∈ opTable) {w : CmdWord}
    (hfit : r.fits w = true) (hfit' : r'.fits w = true) : opcOf r.pattern = opcOf r'.pattern :=
  (opcOf_eq_of_fits hr hfit).symm.trans (opcOf_eq_of_fits hr' hfit')

/-- Settles O3: every row of the map fixes the opcode byte, and no two rows fix the same one. -/
theorem opcodeRowsAreDisjoint : Obligations.OpcodeRowsAreDisjoint := by
  refine (List.pairwise_map.mp opTable_opcodes_nodup).imp_of_mem ?_
  rintro r r' hr hr' hne w ⟨hfit, hfit'⟩
  exact hne (opcOf_pattern_eq_of_fits hr hr' hfit hfit')

theorem eq_of_fits {r r' : OpRow} (hr : r ∈ opTable) (hr' : r' ∈ opTable) {w : CmdWord} (hfit : r.fits w = true)
    (hfit' : r'.fits w = true) : r = r' :=
  List.inj_on_of_nodup_map opTable_opcodes_nodup hr hr' (opcOf_pattern_eq_of_fits hr hr' hfit hfit')

/-- Decoding is by the one row that fits (R101), wherever it stands in the map. -/
theorem decode_eq_ok_iff {w : CmdWord} {i : Instr} :
    decode w = .ok i ↔ ∃ r ∈ opTable, r.fits w = true ∧ r.build w = i := by
  unfold decode
  split
  · next r hfind =>
    have hr := List.mem_of_find?_eq_some hfind
    have hfit : r.fits w = true := by simpa using List.find?_some hfind
    constructor
    · intro h
      exact ⟨r, hr, hfit, Except.ok.inj h⟩
    · rintro ⟨r', hr', hfit', rfl⟩
      rw [eq_of_fits hr hr' hfit hfit']
  · next hfind =>
    constructor
    · intro h
      split at h <;> cases h
    · rintro ⟨r, hr, hfit, -⟩
      exact absurd hfit (List.find?_eq_none.mp hfind r hr)

theorem opTable_faithful : ∀ r ∈ opTable, r.Faithful := by
  simp only [opTable, List.forall_mem_cons]
  exact ⟨rowZ_faithful rfl rfl, rowZ_faithful rfl rfl,
    rowZ_faithful rfl rfl, rowZ_faithful rfl rfl, rowZ_faithful rfl rfl,
    rowA_faithful 0x20 (fun _ => rfl) (fun _ => rfl), rowA_faithful 0x21 (fun _ => rfl) (fun _ => rfl),
    rowA_faithful 0x22 (fun _ => rfl) (fun _ => rfl), rowA_faithful 0x23 (fun _ => rfl) (fun _ => rfl),
    rowA_faithful 0x24 (fun _ => rfl) (fun _ => rfl), rowA_faithful 0x25 (fun _ => rfl) (fun _ => rfl),
    rowZ_faithful rfl rfl, rowZ_faithful rfl rfl, rowZ_faithful rfl rfl,
    rowZ_faithful rfl rfl, rowZ_faithful rfl rfl, rowZ_faithful rfl rfl,
    rowZ_faithful rfl rfl, rowZ_faithful rfl rfl,
    rowN_faithful 0x52 (fun _ => rfl) (fun _ => rfl), rowN_faithful 0x53 (fun _ => rfl) (fun _ => rfl),
    rowZ_faithful rfl rfl,
    rowN_faithful 0x55 (fun _ => rfl) (fun _ => rfl), rowN_faithful 0x56 (fun _ => rfl) (fun _ => rfl),
    rowZ_faithful rfl rfl, List.forall_mem_nil _⟩

theorem isBuilt_of_wellFormed {i : Instr} (hwf : i.wellFormed = true) : i.IsBuilt := by
  cases i with
  | nop | update | cpoll | csetsp | cisconn | gsetcal | gupdate | gget | ssetcal | sstep | sget | bservice | bsetled
  | bany | dpad => exact isBuilt_of_rowZ (by simp [opTable, encode])
  | aread a => exact isBuilt_of_rowA 0x20 (by simp [opTable]) a
  | agetpos a => exact isBuilt_of_rowA 0x21 (by simp [opTable]) a
  | asetpos a => exact isBuilt_of_rowA 0x22 (by simp [opTable]) a
  | asetinv a => exact isBuilt_of_rowA 0x23 (by simp [opTable]) a
  | asetcal a => exact isBuilt_of_rowA 0x24 (by simp [opTable]) a
  | aisinv a => exact isBuilt_of_rowA 0x25 (by simp [opTable]) a
  | bget n => exact isBuilt_of_rowN 0x52 (by simp [opTable]) (of_decide_eq_true hwf)
  | bchg n => exact isBuilt_of_rowN 0x53 (by simp [opTable]) (of_decide_eq_true hwf)
  | bprs n => exact isBuilt_of_rowN 0x55 (by simp [opTable]) (of_decide_eq_true hwf)
  | brel n => exact isBuilt_of_rowN 0x56 (by simp [opTable]) (of_decide_eq_true hwf)

/-- Settles O2: the row that decodes the word is faithful to the encoder. -/
theorem decodedWordIsItsEncoding : Obligations.DecodedWordIsItsEncoding := by
  intro w i hdecode
  obtain ⟨r, hr, hfit, rfl⟩ := decode_eq_ok_iff.mp hdecode
  exact opTable_faithful r hr w hfit

/-- Settles O1: some word decodes to the command, and by O2 that word is its encoding. -/
theorem decodeOfEncode : Obligations.DecodeOfEncode := by
  intro i hwf
  obtain ⟨r, hr, w, hfit, hbuild⟩ := isBuilt_of_wellFormed hwf
  have hdecode : decode w = .ok i := decode_eq_ok_iff.mpr ⟨r, hr, hfit, hbuild⟩
  obtain ⟨-, hencode⟩ := decodedWordIsItsEncoding w i hdecode
  rw [hencode, hdecode]

/-- Settles O4, by evaluating the decoder on the thirteen words. -/
theorem decodesWordsOfTheOpcodeMap : Obligations.DecodesWordsOfTheOpcodeMap :=
  ⟨rfl, rfl, rfl, rfl, rfl, rfl, rfl, rfl, rfl, rfl, rfl, rfl, rfl⟩

end Sys2Proof
end

section
/-! The step at a write of a reserved word to `CMD` (`30_encoding.md` R105; log 4). -/

namespace Sys2Proof.Machine

theorem runCommand_of_decode_error {cw : CmdWord} {e : DecodeError} (s : State) (hdecode : decode cw = .error e) :
    runCommand cw s = .next s := by
  unfold runCommand
  rw [hdecode]

theorem popMove_eq_of_moves {s : State} {m : HostMove} {rest : List HostMove} (hmoves : s.env.moves = m :: rest) :
    s.popMove = { s with env := { s.env with moves := rest } } := by
  simp [State.popMove, State.setEnv, hmoves]

/-- Settles O7, by the branch of the step that runs a command: on a reserved word nothing follows the move. -/
theorem reservedCommandDoesNothing : Obligations.ReservedCommandDoesNothing := by
  intro s v rest e hrst hmoves hdecode
  rw [step_eq_runCommand_of_write_cmd hrst hmoves, commandWord_eq_setWidth, runCommand_of_decode_error _ hdecode,
    popMove_eq_of_moves hmoves]

end Sys2Proof.Machine
end

section
/-! The connection monitor (`41_conn.md`): one equation for each branch of its commands, and from them the equations of
CPOLL (R122), CSETSP (R125) and CISCONN (R126). -/

namespace Sys2Proof.Machine

/-! A poll of the monitor, branch (a) apart (R122). -/

theorem polled_of_rise {c : Conn} (now : Word) (hlevel : true ≠ c.level) :
    c.polled true now = { c with state := .plugIn, level := true, lastChange := now } := by
  simp [Conn.polled, hlevel]

theorem polled_of_fall {c : Conn} (now : Word) (hlevel : false ≠ c.level) :
    c.polled false now = { c with state := .unplug, level := false, lastChange := now } := by
  simp [Conn.polled, hlevel]

theorem polled_of_elapsed {c : Conn} {now : Word} (hlevel : true = c.level) (helapsed : c.stable ≤ now - c.lastChange) :
    c.polled true now = { c with state := .connected } := by
  simp [Conn.polled, elapsedSince, ← hlevel, helapsed]

theorem polled_of_not_elapsed {c : Conn} {now : Word} (hlevel : true = c.level) (hwait : now - c.lastChange < c.stable) :
    c.polled true now = c := by
  simp [Conn.polled, elapsedSince, ← hlevel, BitVec.not_le.mpr hwait]

theorem polled_of_unplug {c : Conn} (now : Word) (hlevel : false = c.level) (hunplug : c.state = .unplug) :
    c.polled false now = { c with state := .disconnected } := by
  simp [Conn.polled, ← hlevel, hunplug]

theorem polled_of_idle {c : Conn} (now : Word) (hlevel : false = c.level) (hidle : c.state ≠ .unplug) :
    c.polled false now = c := by
  simp [Conn.polled, ← hlevel, hidle]

/-! CPOLL (R122). -/

/-- Reading the level takes a sample of a used port, and touches nothing else (R121). -/
theorem afterDetLevel_eq (s : State) : s.afterDetLevel =
    s.setEnv { s.env with detIn := if s.detEn then s.env.detIn.advance else s.env.detIn } := by
  unfold State.afterDetLevel
  split <;> rfl

theorem afterDetLevel_nowMs (s : State) : s.afterDetLevel.nowMs = s.nowMs := by
  rw [afterDetLevel_eq]
  rfl

/-- Branch (a): the short circuit, which does not sample the clock. -/
theorem cpoll_of_connected {s : State} (hactive : s.detLevel = true ∧ s.conn.state = .connected) :
    cpoll s = s.afterDetLevel := if_pos hactive

/-- Branches (b) to (e). -/
theorem cpoll_of_not_connected {s : State} (hother : ¬ (s.detLevel = true ∧ s.conn.state = .connected)) :
    cpoll s = s.afterDetLevel.takeNowMs.setConn (s.conn.polled s.detLevel s.nowMs) := by
  rw [← afterDetLevel_nowMs]
  exact if_neg hother

theorem exec_cpoll_of_polled {s : State} {lvl : Bool} {c : Conn}
    (hother : ¬ (s.detLevel = true ∧ s.conn.state = .connected)) (hlvl : s.detLevel = lvl)
    (hpolled : s.conn.polled lvl s.nowMs = c) : exec .cpoll s = .next (s.afterDetLevel.takeNowMs.setConn c) := by
  rw [← hpolled, ← hlvl, ← cpoll_of_not_connected hother]
  rfl

/-- Where the poll leaves the monitor as it was, only the samples are taken. -/
theorem exec_cpoll_of_unchanged {s : State} {lvl : Bool} (hother : ¬ (s.detLevel = true ∧ s.conn.state = .connected))
    (hlvl : s.detLevel = lvl) (hpolled : s.conn.polled lvl s.nowMs = s.conn) :
    exec .cpoll s = .next s.afterDetLevel.takeNowMs := by
  rw [exec_cpoll_of_polled hother hlvl hpolled, afterDetLevel_eq]
  rfl

/-- Settles O21, by the short circuit and the six equations of a poll. -/
theorem cpollTakesItsBranches : Obligations.CpollTakesItsBranches := by
  refine ⟨rfl, fun s => ⟨fun hactive => congrArg _ (cpoll_of_connected hactive), fun hother => ?_⟩⟩
  refine ⟨?rise, ?fall, ?connect, ?wait, ?disconnect, ?idle⟩
  case rise => exact fun hne hon => exec_cpoll_of_polled hother hon (polled_of_rise _ (hon ▸ hne))
  case fall => exact fun hne hoff => exec_cpoll_of_polled hother hoff (polled_of_fall _ (hoff ▸ hne))
  case connect =>
    exact fun hsame hon helapsed => exec_cpoll_of_polled hother hon (polled_of_elapsed (hon ▸ hsame) helapsed)
  case wait => exact fun hsame hon hwait => exec_cpoll_of_unchanged hother hon (polled_of_not_elapsed (hon ▸ hsame) hwait)
  case disconnect =>
    exact fun hsame hoff hunplug => exec_cpoll_of_polled hother hoff (polled_of_unplug _ (hoff ▸ hsame) hunplug)
  case idle => exact fun hsame hoff hidle => exec_cpoll_of_unchanged hother hoff (polled_of_idle _ (hoff ▸ hsame) hidle)

/-! CSETSP (R125). -/

theorem restabled_of_lt {c : Conn} {t now : Word} (hshort : now - c.lastChange < t) :
    c.restabled t now = { c with stable := t, lastChange := now - t } := if_pos hshort

theorem restabled_of_le {c : Conn} {t now : Word} (hlong : t ≤ now - c.lastChange) :
    c.restabled t now = { c with stable := t } := if_neg (BitVec.not_lt.mpr hlong)

theorem isConnected_eq_true_iff {s : State} : s.isConnected = true ↔ s.conn.state = .connected := decide_eq_true_iff

theorem exec_csetsp_of_connected {s : State} (hconn : s.conn.state = .connected) :
    exec .csetsp s = .next (s.takeNowMs.setConn (s.conn.restabled s.arg0 s.nowMs)) :=
  congrArg _ (if_pos (isConnected_eq_true_iff.mpr hconn))

theorem exec_csetsp_of_not_connected {s : State} (hconn : s.conn.state ≠ .connected) :
    exec .csetsp s = .next (s.setConn { s.conn with stable := s.arg0 }) :=
  congrArg _ (if_neg (mt isConnected_eq_true_iff.mp hconn))

/-- Whatever the new period, the time since the last change meets it afterwards, and the state is kept (R125). -/
theorem restabled_keeps_connection (c : Conn) (t now : Word) :
    (c.restabled t now).state = c.state ∧ (c.restabled t now).stable ≤ now - (c.restabled t now).lastChange := by
  by_cases hshort : now - c.lastChange < t
  · simp [restabled_of_lt hshort]
  · have hlong : t ≤ now - c.lastChange := BitVec.not_lt.mp hshort
    exact restabled_of_le hlong ▸ ⟨rfl, hlong⟩

/-- Settles O22, by whether the elapsed time meets the new period. -/
theorem csetspKeepsTheConnection : Obligations.CsetspKeepsTheConnection := by
  refine ⟨rfl, fun s => ⟨exec_csetsp_of_not_connected, fun hconn => ?_⟩⟩
  rw [exec_csetsp_of_connected hconn]
  obtain ⟨hstate, hmet⟩ := restabled_keeps_connection s.conn s.arg0 s.nowMs
  refine ⟨fun hshort => ?_, fun hlong => ?_, ⟨_, rfl, hstate.trans hconn, hmet⟩⟩
  · rw [restabled_of_lt hshort]
    rfl
  · rw [restabled_of_le hlong]
    rfl

/-! CISCONN (R126). -/

theorem statusWord_connected (s : State) : s.statusWord[3] = s.isConnected := by
  simp only [State.statusWord, BitVec.getElem_setWidth, BitVec.getLsbD_append]
  simp

theorem boolWord_decide (p : Prop) [Decidable p] : boolWord (decide p) = if p then 1 else 0 := by
  simp [boolWord]

/-- Settles O23: `RES` and bit 3 of `STATUS` are both `isConnected`. -/
theorem cisconnTellsConnected : Obligations.CisconnTellsConnected := by
  refine ⟨rfl, fun s => ⟨?_, statusWord_connected s⟩⟩
  rw [← boolWord_decide]
  rfl

end Sys2Proof.Machine
end

section
/-! The debounce property (`41_conn.md` R127): CPOLL any number of times. -/

namespace Sys2Proof.Machine

theorem Feed.peek_after {α : Type} (free : Nat → α) (f : Feed α) (n : Nat) : (f.after n).peek free = f.nth free n := rfl

theorem Feed.advance_after {α : Type} (f : Feed α) (n : Nat) : (f.after n).advance = f.after (n + 1) := by
  simp [Feed.after, Feed.advance, Nat.add_assoc]

/-- A command that always completes, run again and again, is its change of state iterated (R81). -/
theorem runCommands_replicate {i : Instr} {f : State → State} (hexec : ∀ s, exec i s = .next (f s)) (n : Nat) (s : State) :
    runCommands (List.replicate n i) s = .next (f^[n] s) := by
  induction n generalizing s with
  | zero => rfl
  | succ n ih => simp [List.replicate_succ, runCommands, hexec, ih]

theorem runCommands_replicate_cpoll (n : Nat) (s : State) :
    runCommands (List.replicate n .cpoll) s = .next (cpoll^[n] s) := runCommands_replicate (fun _ => rfl) n s

/-! What each poll of a run reads. -/

/-- The level that poll number `i` of a run from `s` reads, counted from 0 (R121). -/
def State.levelAt (s : State) (i : Nat) : Bool :=
  if s.detEn then s.env.detIn.nth Config.freeDetIn i ^^ s.detInv else true

theorem levelAt_zero (s : State) : s.levelAt 0 = s.detLevel := by
  unfold State.levelAt
  rw [← Feed.peek_eq_nth_zero]
  rfl

theorem levelAt_eq_true_iff {s : State} {i : Nat} :
    s.levelAt i = true ↔ (s.cfg[0] = true → (s.env.detIn.nth Config.freeDetIn i ^^ s.cfg[1]) = true) := by
  unfold State.levelAt State.detEn State.detInv
  cases s.cfg[0] <;> simp

/-- A poll takes the sample it reads and no other, and does not change which port is used (R121). -/
theorem levelAt_cpoll (s : State) (i : Nat) : (cpoll s).levelAt i = s.levelAt (i + 1) := by
  have hafter : s.afterDetLevel.levelAt i = s.levelAt (i + 1) := by
    rw [afterDetLevel_eq]
    cases hen : s.cfg[0] <;> simp [State.levelAt, State.detEn, State.detInv, hen, Feed.nth_advance]
  unfold cpoll
  split
  · exact hafter
  · exact hafter

theorem detLevel_cpoll_iterate (n : Nat) (s : State) : (cpoll^[n] s).detLevel = s.levelAt n := by
  induction n generalizing s with
  | zero => exact (levelAt_zero s).symm
  | succ n ih => rw [Function.iterate_succ_apply, ih, levelAt_cpoll]

/-! From Connected. -/

/-- Active polls leave a connected monitor alone, by the short circuit (R122 (a)). -/
theorem cpoll_iterate_conn_of_connected {n : Nat} {s : State} (hconn : s.conn.state = .connected)
    (hactive : ∀ i, i < n → s.levelAt i = true) : (cpoll^[n] s).conn = s.conn := by
  induction n with
  | zero => rfl
  | succ n ih =>
    have hkept : (cpoll^[n] s).conn = s.conn := ih fun i hi => hactive i (by omega)
    have hon : (cpoll^[n] s).detLevel = true := (detLevel_cpoll_iterate n s).trans (hactive n (by omega))
    rw [Function.iterate_succ_apply', cpoll_of_connected ⟨hon, by rw [hkept, hconn]⟩, afterDetLevel_eq]
    exact hkept

/-- Settles O25: active polls leave the monitor alone, and an inactive one is a fall. -/
theorem connectedUntilReadInactive : Obligations.ConnectedUntilReadInactive := by
  intro n s hconn hlevel hactive
  have hkept : (cpoll^[n] s).conn = s.conn :=
    cpoll_iterate_conn_of_connected hconn fun i hi => levelAt_eq_true_iff.mpr fun hused => hactive hused i hi
  refine ⟨_, runCommands_replicate_cpoll n s, hkept, fun hused hread => ?_⟩
  have hoff : (cpoll^[n] s).detLevel = false := by
    simp [detLevel_cpoll_iterate, State.levelAt, State.detEn, State.detInv, hused, hread]
  have hfall : false ≠ (cpoll^[n] s).conn.level := by simp [hkept, hlevel]
  exact ⟨_, exec_cpoll_of_polled (by simp [hoff]) hoff (polled_of_fall _ hfall), rfl, rfl⟩

/-! From a rise. -/

/-- The milliseconds that pass before the next `n` samples of the clock (R310, log 3). -/
def State.msOver (s : State) (n : Nat) : Nat := ((List.range n).map (s.env.elapsed.nth Config.freeElapsed)).sum

theorem msOver_succ (s : State) (n : Nat) :
    s.msOver (n + 1) = s.msOver n + s.env.elapsed.nth Config.freeElapsed n := List.sum_range_succ _ n

/-- After `n` active polls from the rise in `s` the state is `t`: still waiting, every poll so far having sampled the clock,
or connected since one of them, after which no poll samples it. -/
inductive Debounced (s : State) (n : Nat) (t : State) : Prop
  | waiting (hconn : t.conn = s.conn) (hwait : n = 0 ∨ s.msOver n < s.conn.stable.toNat)
      (hclock : t.env.clock = s.env.clock + s.msOver n) (hfeed : t.env.elapsed = s.env.elapsed.after n)
  | connected (hconn : t.conn = { s.conn with state := .connected }) (hpolled : 0 < n)
      (hmet : s.conn.stable.toNat ≤ s.msOver n)

/-- The law of R310 for two samples of the clock: the modular difference is the true one below 2^32. -/
theorem toNat_ofNat_add_sub {c k : Nat} (hk : k < 2 ^ 32) : (BitVec.ofNat 32 (c + k) - BitVec.ofNat 32 c).toNat = k := by
  rw [BitVec.ofNat_add, BitVec.add_comm, BitVec.add_sub_cancel, BitVec.toNat_ofNat, Nat.mod_eq_of_lt hk]

/-- One more active poll: the elapsed time is that of all polls, and decides between branch (c) and no change (R122). -/
theorem Debounced.cpoll {s t : State} {n : Nat} (h : Debounced s n t) (hstate : s.conn.state = .plugIn)
    (hlevel : s.conn.level = true) (hrise : s.conn.lastChange = BitVec.ofNat 32 s.env.clock) (hon : t.detLevel = true)
    (hlaw : s.msOver (n + 1) < 2 ^ 32) : Debounced s (n + 1) (cpoll t) := by
  cases h with
  | waiting hconn hwait hclock hfeed =>
    have hms : t.env.clock + t.elapsedNext = s.env.clock + s.msOver (n + 1) := by
      rw [State.elapsedNext, hfeed, Feed.peek_after, hclock, msOver_succ, Nat.add_assoc]
    have helapsed : (t.nowMs - s.conn.lastChange).toNat = s.msOver (n + 1) := by
      rw [State.nowMs, hms, hrise, toNat_ofNat_add_sub hlaw]
    rw [cpoll_of_not_connected (by simp [hconn, hstate]), hon, hconn, afterDetLevel_eq]
    by_cases hmet : s.conn.stable.toNat ≤ s.msOver (n + 1)
    · refine .connected (polled_of_elapsed hlevel.symm ?_) (by omega) hmet
      rwa [BitVec.le_def, helapsed]
    · refine .waiting (polled_of_not_elapsed hlevel.symm ?_) (.inr (by omega)) hms ?_
      · rw [BitVec.lt_def, helapsed]
        omega
      · exact (congrArg Feed.advance hfeed).trans (Feed.advance_after _ n)
  | connected hconn hpolled hmet =>
    rw [cpoll_of_connected ⟨hon, by rw [hconn]⟩, afterDetLevel_eq]
    exact .connected hconn (by omega) (by rw [msOver_succ]; omega)

theorem debounced_iterate {s : State} (hstate : s.conn.state = .plugIn) (hlevel : s.conn.level = true)
    (hrise : s.conn.lastChange = BitVec.ofNat 32 s.env.clock) {n : Nat} (hactive : ∀ i, i < n → s.levelAt i = true)
    (hlaw : s.msOver n < 2 ^ 32) : Debounced s n (cpoll^[n] s) := by
  induction n with
  | zero => exact .waiting rfl (.inl rfl) rfl rfl
  | succ n ih =>
    have hbefore : s.msOver n < 2 ^ 32 := by
      rw [msOver_succ] at hlaw
      omega
    have hon : (Machine.cpoll^[n] s).detLevel = true := (detLevel_cpoll_iterate n s).trans (hactive n (by omega))
    rw [Function.iterate_succ_apply']
    exact (ih (fun i hi => hactive i (by omega)) hbefore).cpoll hstate hlevel hrise hon hlaw

/-- Settles O24, by what `n` active polls make of the rise. -/
theorem debounceWaitsForTheStablePeriod : Obligations.DebounceWaitsForTheStablePeriod := by
  intro n s hstate hlevel hrise hactive hlaw
  refine ⟨_, runCommands_replicate_cpoll n s, ?_⟩
  change (_ ↔ 0 < n ∧ s.conn.stable.toNat ≤ s.msOver n) ∧ _
  cases debounced_iterate hstate hlevel hrise
    (fun i hi => levelAt_eq_true_iff.mpr fun hused => hactive hused i hi) hlaw with
  | waiting hconn hwait =>
    have hnot : ¬ (0 < n ∧ s.conn.stable.toNat ≤ s.msOver n) := by omega
    simp [hconn, hstate, hlevel, hnot]
  | connected hconn hpolled hmet => simp [hconn, hlevel, hpolled, hmet]

end Sys2Proof.Machine
end

section
/-! The saturating remap (`42_axis.md` R140, R143, R145, R151): the reflection puts the calibration bounds in order, and the
remap rises with the reflected value from the first output bound to the second. Where the output bounds fall, everything is
the negative of a rise (`remap_neg`). -/

namespace Sys2Proof.Machine

/-! The reflection (R140, R143). -/

theorem reflected_of_le {c : AxisState} (hc : c.min.toInt ≤ c.max.toInt) (v : Int) : c.reflected v = v := by
  simp [AxisState.reflected, AxisState.inverted, hc]

theorem reflected_of_gt {c : AxisState} (hc : c.min.toInt > c.max.toInt) (v : Int) :
    c.reflected v = c.lo + c.hi - v := by
  simp [AxisState.reflected, AxisState.inverted, hc]

theorem reflected_mono {c : AxisState} (hc : c.min.toInt ≤ c.max.toInt) {v v' : Int} (hv : v ≤ v') :
    c.reflected v ≤ c.reflected v' := by
  simpa [reflected_of_le hc] using hv

theorem reflected_anti {c : AxisState} (hc : c.min.toInt > c.max.toInt) {v v' : Int} (hv : v ≤ v') :
    c.reflected v' ≤ c.reflected v := by
  rw [reflected_of_gt hc, reflected_of_gt hc]
  exact Int.sub_le_sub_left hv _

/-- R145 (1): in either orientation the first calibration bound is reflected to the lower one. -/
theorem reflected_min (c : AxisState) : c.reflected c.min.toInt = c.lo := by
  rcases le_or_gt c.min.toInt c.max.toInt with hc | hc
  · rw [reflected_of_le hc, AxisState.lo, min_eq_left hc]
  · rw [reflected_of_gt hc, AxisState.hi, max_eq_left hc.le, add_sub_cancel_right]

/-- R145 (1): in either orientation the second calibration bound is reflected to the upper one. -/
theorem reflected_max (c : AxisState) : c.reflected c.max.toInt = c.hi := by
  rcases le_or_gt c.min.toInt c.max.toInt with hc | hc
  · rw [reflected_of_le hc, AxisState.hi, max_eq_right hc]
  · rw [reflected_of_gt hc, AxisState.lo, min_eq_right hc.le, add_sub_cancel_left]

theorem lo_lt_hi {c : AxisState} (hne : c.min.toInt ≠ c.max.toInt) : c.lo < c.hi := min_lt_max.mpr hne

/-! The branches of the remap (R143). -/

theorem remap_of_le_lo {c : AxisState} {v : Int} (hlow : c.reflected v ≤ c.lo) (oMin oMax : Int) :
    c.remap v oMin oMax = oMin := if_pos hlow

theorem remap_of_hi_le {c : AxisState} {v : Int} (hlow : c.lo < c.reflected v) (hhigh : c.hi ≤ c.reflected v)
    (oMin oMax : Int) : c.remap v oMin oMax = oMax :=
  (if_neg (Int.not_le.mpr hlow)).trans (if_pos hhigh)

theorem remap_neg (c : AxisState) (v oMin oMax : Int) : c.remap v (-oMin) (-oMax) = -c.remap v oMin oMax := by
  have hneg : (c.reflected v - c.lo) * (-oMax - -oMin) = -((c.reflected v - c.lo) * (oMax - oMin)) := by ring
  unfold AxisState.remap
  split_ifs
  · rfl
  · rfl
  · rw [hneg, tdiv, Int.neg_tdiv, tdiv, neg_add]

/-! The bounds of the remap (R143). -/

/-- The term that interpolation adds lies between 0 and the whole rise `d`. -/
theorem tdiv_mul_mem {k n d : Int} (hk : 0 ≤ k) (hkn : k ≤ n) (hn : 0 < n) (hd : 0 ≤ d) :
    0 ≤ tdiv (k * d) n ∧ tdiv (k * d) n ≤ d := by
  refine ⟨Int.tdiv_nonneg (mul_nonneg hk hd) hn.le, ?_⟩
  calc Int.tdiv (k * d) n
      ≤ Int.tdiv (n * d) n := Int.tdiv_le_tdiv hn (mul_le_mul_of_nonneg_right hkn hd)
    _ = d := Int.mul_tdiv_cancel_left d hn.ne'

theorem remap_mem_of_le {oMin oMax : Int} (ho : oMin ≤ oMax) (c : AxisState) (v : Int) :
    oMin ≤ c.remap v oMin oMax ∧ c.remap v oMin oMax ≤ oMax := by
  rcases remap_cases c v oMin oMax with ⟨_, hr⟩ | ⟨_, _, hr⟩ | ⟨hlow, hhigh, hr⟩
  · omega
  · omega
  · have hadded := tdiv_mul_mem (k := c.reflected v - c.lo) (n := c.hi - c.lo) (d := oMax - oMin)
      (by omega) (by omega) (by omega) (by omega)
    omega

theorem remap_mem (c : AxisState) (v oMin oMax : Int) :
    min oMin oMax ≤ c.remap v oMin oMax ∧ c.remap v oMin oMax ≤ max oMin oMax := by
  rcases Int.le_total oMin oMax with ho | ho
  · simpa [ho] using remap_mem_of_le ho c v
  · have hrise := remap_mem_of_le (neg_le_neg ho) c v
    rw [remap_neg] at hrise
    omega

/-! The order of the remap (R145). -/

theorem remap_le_remap {c : AxisState} {v v' oMin oMax : Int} (hw : c.reflected v ≤ c.reflected v') (ho : oMin ≤ oMax) :
    c.remap v oMin oMax ≤ c.remap v' oMin oMax := by
  rcases remap_cases c v oMin oMax with ⟨_, hr⟩ | ⟨hlow, hhigh, hr⟩ | ⟨hlow, hhigh, hr⟩
  · exact hr.trans_le (remap_mem_of_le ho c v').1
  · rw [hr, remap_of_hi_le (hlow.trans_le hw) (hhigh.trans hw)]
  · rcases remap_cases c v' oMin oMax with ⟨hlow', _⟩ | ⟨_, _, hr'⟩ | ⟨_, _, hr'⟩
    · omega
    · exact (remap_mem_of_le ho c v).2.trans_eq hr'.symm
    · have hproduct : (c.reflected v - c.lo) * (oMax - oMin) ≤ (c.reflected v' - c.lo) * (oMax - oMin) :=
        mul_le_mul_of_nonneg_right (by omega) (by omega)
      rw [hr, hr']
      exact Int.add_le_add_left (Int.tdiv_le_tdiv (by omega) hproduct) oMin

theorem remap_le_remap_of_fall {c : AxisState} {v v' oMin oMax : Int} (hw : c.reflected v ≤ c.reflected v')
    (ho : oMax ≤ oMin) : c.remap v' oMin oMax ≤ c.remap v oMin oMax := by
  have hrise := remap_le_remap hw (neg_le_neg ho)
  rw [remap_neg, remap_neg] at hrise
  exact neg_le_neg_iff.mp hrise

/-- Settles O30: the reflection keeps or turns the order, and so do the output bounds. -/
theorem remapIsMonotone : Obligations.RemapIsMonotone := fun _ _ _ _ _ hv =>
  ⟨fun hc ho => remap_le_remap (reflected_mono hc hv) ho,
   fun hc ho => remap_le_remap (reflected_anti hc hv) ho,
   fun hc ho => remap_le_remap_of_fall (reflected_mono hc hv) ho,
   fun hc ho => remap_le_remap_of_fall (reflected_anti hc hv) ho⟩

/-! Saturation (R145, R151). -/

theorem remap_of_reflected_le_min {c : AxisState} {v : Int} (hw : c.reflected v ≤ c.reflected c.min.toInt)
    (oMin oMax : Int) : c.remap v oMin oMax = oMin := remap_of_le_lo (reflected_min c ▸ hw) oMin oMax

theorem remap_of_max_le_reflected {c : AxisState} {v : Int} (hne : c.min.toInt ≠ c.max.toInt)
    (hw : c.reflected c.max.toInt ≤ c.reflected v) (oMin oMax : Int) : c.remap v oMin oMax = oMax := by
  rw [reflected_max] at hw
  exact remap_of_hi_le ((lo_lt_hi hne).trans_le hw) hw oMin oMax

/-- Settles O31: the calibration bounds are reflected to the sorted ones, and a value beyond one stays beyond it. -/
theorem remapMeetsTheOutputBounds : Obligations.RemapMeetsTheOutputBounds := by
  intro c v oMin oMax
  refine ⟨fun hne => ?bounds, fun hlt => ?upright, fun hgt => ?inverted, ?equal⟩
  case bounds =>
    exact ⟨remap_of_reflected_le_min le_rfl _ _, remap_of_max_le_reflected (mt BitVec.toInt_inj.mp hne) le_rfl _ _⟩
  case upright =>
    exact ⟨fun hv => remap_of_reflected_le_min (reflected_mono hlt.le hv) _ _,
      fun hv => remap_of_max_le_reflected hlt.ne (reflected_mono hlt.le hv) _ _⟩
  case inverted =>
    exact ⟨fun hv => remap_of_reflected_le_min (reflected_anti hgt hv) _ _,
      fun hv => remap_of_max_le_reflected hgt.ne' (reflected_anti hgt hv) _ _⟩
  case equal =>
    obtain ⟨hge, hle⟩ := remap_mem_of_le (le_refl oMin) c v
    exact le_antisymm hle hge

end Sys2Proof.Machine
end

section
/-! AGETPOS (`42_axis.md` R144): the remap of the buffer, which the 32 bits of `RES` hold exactly. -/

namespace Sys2Proof.Machine

/-- R143 written out, the inversion as the comparison it stands for (R140). -/
theorem remap_eq (c : AxisState) (v oMin oMax : Int) :
    c.remap v oMin oMax =
      let w := if c.min.toInt > c.max.toInt then c.lo + c.hi - v else v
      if w ≤ c.lo then oMin else if w ≥ c.hi then oMax else oMin + Int.tdiv ((w - c.lo) * (oMax - oMin)) (c.hi - c.lo) := by
  have hw : c.reflected v = if c.min.toInt > c.max.toInt then c.lo + c.hi - v else v := by
    simp [AxisState.reflected, AxisState.inverted]
  rw [AxisState.remap, hw]
  rfl

/-- A value between two words is itself held by a word. -/
theorem toWord_toInt {r : Int} {x y : Word} (hlow : min x.toInt y.toInt ≤ r) (hhigh : r ≤ max x.toInt y.toInt) :
    (toWord r).toInt = r := by
  have hx := BitVec.le_toInt x
  have hy := BitVec.le_toInt y
  have hx' := BitVec.toInt_lt (x := x)
  have hy' := BitVec.toInt_lt (x := y)
  exact BitVec.toInt_ofInt_eq_self (by decide) (by omega) (by omega)

/-- Settles O29, by the bounds of the remap. -/
theorem agetposRemapsTheBuffer : Obligations.AgetposRemapsTheBuffer := by
  refine ⟨rfl, rfl, fun a s => ?_⟩
  intro lo hi v w oMin oMax r
  have hr : (s.ax a).remap v oMin oMax = r := remap_eq (s.ax a) v oMin oMax
  obtain ⟨hlow, hhigh⟩ := remap_mem (s.ax a) v oMin oMax
  rw [hr] at hlow hhigh
  refine ⟨?_, hlow, hhigh, toWord_toInt hlow hhigh⟩
  rw [← hr]
  rfl

end Sys2Proof.Machine
end

section
/-! AREAD (`42_axis.md` R141, R150): one equation for a used port and one for an unused port, and what its flag says. -/

namespace Sys2Proof.Machine

/-- One sample taken (log 2). -/
theorem Feed.after_one {α : Type} (f : Feed α) : f.after 1 = f.advance := by
  simp [Feed.after, Feed.advance]

/-- The buffer holds a sample without loss and without sign (R141). -/
theorem rawOfSample_toInt (v : BitVec 10) : (rawOfSample v).toInt = (v.toNat : Int) := by
  have hlt := v.isLt
  have hnat : (rawOfSample v).toNat = v.toNat := BitVec.toNat_setWidth_of_le (by decide)
  rw [BitVec.toInt_eq_toNat_of_lt (by omega), hnat]

/-- R141: the samples differ, and they are not both beyond one bound. -/
theorem axisChanged_eq (lo hi old new : Int) : axisChanged lo hi old new =
    decide (new ≠ old ∧ ¬ (old < lo ∧ new < lo) ∧ ¬ (old > hi ∧ new > hi)) := by
  simp only [axisChanged, Bool.decide_and, decide_not, Bool.and_assoc]

theorem readChanged_of_used {s : State} {a : Axis} (hen : s.axEn a = true) :
    s.readChanged a = axisChanged (s.ax a).lo (s.ax a).hi (s.ax a).raw.toInt (s.ain a).toNat := by
  rw [State.readChanged, if_pos hen, rawOfSample_toInt]

/-! The sorted bounds by the comparison that sorts them (R140). -/

theorem lo_eq (c : AxisState) : c.lo = if c.min.toInt ≤ c.max.toInt then c.min.toInt else c.max.toInt := min_def _ _

theorem hi_eq (c : AxisState) : c.hi = if c.min.toInt ≤ c.max.toInt then c.max.toInt else c.min.toInt := max_def _ _

/-! AREAD. -/

theorem exec_aread_of_used {s : State} {a : Axis} (hen : s.axEn a = true) {c : Bool} (hc : s.readChanged a = c) :
    exec (.aread a) s = .next ((((s.takeAin a).setAx a { s.ax a with raw := rawOfSample (s.ain a) }).setFlags
      (s.flags.withAx a c)).resBool c) := by
  have hsampled : s.sampled a = (s.takeAin a).setAx a { s.ax a with raw := rawOfSample (s.ain a) } := if_pos hen
  rw [← hc, ← hsampled]
  rfl

theorem exec_aread_of_unused {s : State} {a : Axis} (hen : s.axEn a = false) :
    exec (.aread a) s = .next ((s.setFlags (s.flags.withAx a false)).resBool false) := by
  have hsampled : s.sampled a = s := by simp [State.sampled, hen]
  have hchanged : s.readChanged a = false := by simp [State.readChanged, hen]
  change Host.Outcome.next (aread a s) = _
  rw [aread, hsampled, hchanged]

/-- Settles O27, by the equations of a read of a used and of an unused port. -/
theorem areadSamplesAndReportsChange : Obligations.AreadSamplesAndReportsChange := by
  refine ⟨rfl, rfl, fun s => ?_⟩
  simp only [← lo_eq, ← hi_eq, ← axisChanged_eq, Feed.after_one]
  exact ⟨fun hen => exec_aread_of_used (a := .x) hen (readChanged_of_used hen), exec_aread_of_unused (a := .x),
    fun hen => exec_aread_of_used (a := .y) hen (readChanged_of_used hen), exec_aread_of_unused (a := .y)⟩

/-! The change-suppression property. -/

theorem axisChanged_of_saturated {lo hi old new : Int} (hsame : old < lo ∧ new < lo ∨ old > hi ∧ new > hi) :
    axisChanged lo hi old new = false := by
  rw [axisChanged_eq, decide_eq_false_iff_not]
  tauto

theorem axisChanged_of_crossing {lo hi old new : Int} (hle : lo ≤ hi)
    (hcross : old < lo ∧ new > hi ∨ old > hi ∧ new < lo) : axisChanged lo hi old new = true := by
  rw [axisChanged_eq, decide_eq_true_iff]
  omega

/-- Settles O28: the flag of samples saturated at one end, and of samples that cross the range. -/
theorem saturatedSamplesReportNoChange : Obligations.SaturatedSamplesReportNoChange := by
  intro a s t hen hexec old new lo hi
  have hres : t.res = boolWord (axisChanged lo hi old new) := by
    obtain rfl : aread a s = t := Host.Outcome.next.inj hexec
    exact congrArg boolWord (readChanged_of_used hen)
  rw [hres]
  refine ⟨fun hsame => ?_, fun hcross => ?_⟩
  · rw [axisChanged_of_saturated hsame]
    rfl
  · rw [axisChanged_of_crossing min_le_max hcross]
    rfl

end Sys2Proof.Machine
end

section
/-! The commands that set an axis or tell its inversion: ASETPOS, ASETINV, ASETCAL, AISINV (`42_axis.md` R146 to R149). -/

namespace Sys2Proof.Machine

theorem lowHalf_eq_setWidth (w : Word) : lowHalf w = w.setWidth 16 := commandWord_eq_setWidth w

theorem exec_asetpos (a : Axis) (s : State) :
    exec (.asetpos a) s = .next (s.setAx a { s.ax a with raw := s.arg0.setWidth 16 }) := by
  rw [← lowHalf_eq_setWidth]
  rfl

/-- Settles O32, by the equation of ASETPOS on each axis. -/
theorem asetposForcesTheBuffer : Obligations.AsetposForcesTheBuffer :=
  ⟨rfl, rfl, fun s => ⟨exec_asetpos .x s, exec_asetpos .y s⟩⟩

/-- The bounds of an axis, exchanged (R147). -/
def AxisState.swapped (c : AxisState) : AxisState := { c with min := c.max, max := c.min }

/-- R147: equal bounds apart, an exchange of the bounds turns the inversion. -/
theorem inverted_swapped {c : AxisState} (hne : c.min ≠ c.max) : c.swapped.inverted = !c.inverted := by
  have hne' : c.min.toInt ≠ c.max.toInt := mt BitVec.toInt_inj.mp hne
  rw [AxisState.inverted, AxisState.inverted, ← decide_not, decide_eq_decide]
  change c.max.toInt > c.min.toInt ↔ _
  omega

theorem exec_asetinv_of_ne {s : State} {a : Axis} (hdiffers : (s.ax a).inverted ≠ s.arg0[0]) :
    exec (.asetinv a) s = .next (s.setAx a (s.ax a).swapped) := congrArg _ (if_pos hdiffers)

theorem exec_asetinv_of_eq {s : State} {a : Axis} (hasked : (s.ax a).inverted = s.arg0[0]) :
    exec (.asetinv a) s = .next s := congrArg _ (if_neg (not_not.mpr hasked))

/-- R147: after ASETINV an axis of two different bounds is inverted as asked. -/
theorem inverted_of_exec_asetinv {s t : State} {a : Axis} (hexec : exec (.asetinv a) s = .next t)
    (hne : (s.ax a).min ≠ (s.ax a).max) : (t.ax a).inverted = s.arg0[0] := by
  by_cases hasked : (s.ax a).inverted = s.arg0[0]
  · rw [exec_asetinv_of_eq hasked] at hexec
    obtain rfl := Host.Outcome.next.inj hexec
    exact hasked
  · rw [exec_asetinv_of_ne hasked] at hexec
    obtain rfl := Host.Outcome.next.inj hexec
    rw [setAx_ax_self, inverted_swapped hne]
    simpa using Bool.eq_not_of_ne hasked

/-- Settles O33, by the two branches of ASETINV. -/
theorem asetinvSwapsOnlyWhenItDiffers : Obligations.AsetinvSwapsOnlyWhenItDiffers :=
  ⟨rfl, rfl, fun _ => ⟨exec_asetinv_of_ne (a := .x), exec_asetinv_of_eq (a := .x), exec_asetinv_of_ne (a := .y),
    exec_asetinv_of_eq (a := .y), fun _ _ => inverted_of_exec_asetinv⟩⟩

theorem exec_asetcal (a : Axis) (s : State) : exec (.asetcal a) s =
    .next (s.setAx a { s.ax a with min := s.arg0.setWidth 16, max := s.arg1.setWidth 16 }) := by
  rw [← lowHalf_eq_setWidth, ← lowHalf_eq_setWidth]
  rfl

/-- Settles O34, by the equation of ASETCAL on each axis. -/
theorem asetcalStoresTheBounds : Obligations.AsetcalStoresTheBounds :=
  ⟨rfl, rfl, fun s => ⟨exec_asetcal .x s, exec_asetcal .y s⟩⟩

theorem exec_aisinv (a : Axis) (s : State) : exec (.aisinv a) s =
    .next (s.setRes (if (s.ax a).min.toInt > (s.ax a).max.toInt then 1 else 0)) := by
  rw [← boolWord_decide]
  rfl

/-- Settles O35, by the equation of AISINV on each axis. -/
theorem aisinvTellsInversion : Obligations.AisinvTellsInversion :=
  ⟨rfl, rfl, fun s => ⟨exec_aisinv .x s, exec_aisinv .y s⟩⟩

end Sys2Proof.Machine
end

section
/-! GSETCAL (`43_gear.md` R171, R172): an average stays between the samples it is made of and a scaled distance between 0 and
the distance, so 16 bits hold every stored value exactly, and the thresholds are in range and in order. -/

namespace Sys2Proof.Machine

/-! What 16 bits hold (R8). -/

theorem half_toInt_mem (h : Half) : -32768 ≤ h.toInt ∧ h.toInt ≤ 32767 :=
  ⟨BitVec.le_toInt h, Int.le_of_lt_add_one BitVec.toInt_lt⟩

theorem toHalf_toInt {v : Int} (hv : -32768 ≤ v ∧ v ≤ 32767) : (toHalf v).toInt = v :=
  BitVec.toInt_ofInt_eq_self (by decide) hv.1 (Int.lt_add_one_of_le hv.2)

/-! The sample pairs (R170). -/

theorem sampleX_eq (gs : Word) : sampleX gs = (gs.setWidth 16).toInt := congrArg BitVec.toInt (lowHalf_eq_setWidth gs)

theorem highHalf_eq_setWidth (w : Word) : highHalf w = (w >>> 16).setWidth 16 := by
  ext i hi
  simp [highHalf]

theorem sampleY_eq (gs : Word) : sampleY gs = ((gs >>> 16).setWidth 16).toInt := congrArg BitVec.toInt (highHalf_eq_setWidth gs)

theorem sampleX_mem (gs : Word) : -32768 ≤ sampleX gs ∧ sampleX gs ≤ 32767 := half_toInt_mem _

theorem sampleY_mem (gs : Word) : -32768 ≤ sampleY gs ∧ sampleY gs ≤ 32767 := half_toInt_mem _

/-! The averages (R171). -/

theorem tdiv_mem {lo hi v n : Int} (hn : 0 < n) (hlo : n * lo ≤ v) (hhi : v ≤ n * hi) : lo ≤ tdiv v n ∧ tdiv v n ≤ hi := by
  constructor
  · calc lo = Int.tdiv (n * lo) n := (Int.mul_tdiv_cancel_left lo hn.ne').symm
      _ ≤ Int.tdiv v n := Int.tdiv_le_tdiv hn hlo
  · calc Int.tdiv v n ≤ Int.tdiv (n * hi) n := Int.tdiv_le_tdiv hn hhi
      _ = hi := Int.mul_tdiv_cancel_left hi hn.ne'

theorem toHalf_tdiv_toInt {v n : Int} (hn : 0 < n) (hlo : n * -32768 ≤ v) (hhi : v ≤ n * 32767) :
    (toHalf (tdiv v n)).toInt = tdiv v n := toHalf_toInt (tdiv_mem hn hlo hhi)

theorem xAxis_bounds (c : CalInputs) (raw : Half) :
    (c.xAxis raw).min.toInt = tdiv (sampleX c.gs1 + sampleX c.gs2) 2 ∧
    (c.xAxis raw).max.toInt = tdiv (sampleX c.gs5 + sampleX c.gs6) 2 := by
  have hx1 := sampleX_mem c.gs1
  have hx2 := sampleX_mem c.gs2
  have hx5 := sampleX_mem c.gs5
  have hx6 := sampleX_mem c.gs6
  exact ⟨toHalf_tdiv_toInt (by omega) (by omega) (by omega), toHalf_tdiv_toInt (by omega) (by omega) (by omega)⟩

theorem yAxis_bounds (c : CalInputs) (raw : Half) :
    (c.yAxis raw).min.toInt = tdiv (sampleY c.gs2 + sampleY c.gs4 + sampleY c.gs6) 3 ∧
    (c.yAxis raw).max.toInt = tdiv (sampleY c.gs1 + sampleY c.gs3 + sampleY c.gs5) 3 := by
  have hy1 := sampleY_mem c.gs1
  have hy2 := sampleY_mem c.gs2
  have hy3 := sampleY_mem c.gs3
  have hy4 := sampleY_mem c.gs4
  have hy5 := sampleY_mem c.gs5
  have hy6 := sampleY_mem c.gs6
  exact ⟨toHalf_tdiv_toInt (by omega) (by omega) (by omega), toHalf_tdiv_toInt (by omega) (by omega) (by omega)⟩

/-! The percentages and the distances they scale (R11). -/

theorem pct_mem (p : Half) : 0 ≤ pct p ∧ pct p ≤ 100 := by
  simp only [pct, clamp, Config.pctOne]
  split_ifs <;> omega

theorem scale_mem {d p : Int} (hd : 0 ≤ d) (hp : 0 ≤ p ∧ p ≤ 100) : 0 ≤ scale d p ∧ scale d p ≤ d := by
  obtain ⟨hp0, hp100⟩ := hp
  rw [scale, mul_comm]
  exact tdiv_mul_mem hp0 hp100 (by decide) hd

theorem scale_mono {d p p' : Int} (hd : 0 ≤ d) (hp : p ≤ p') : scale d p ≤ scale d p' :=
  Int.tdiv_le_tdiv (by decide) (mul_le_mul_of_nonneg_left hp hd)

/-! A threshold lies between the neutral position and an end of the normalised range (R172 (1), (2), (3)). -/

/-- The threshold that lies `p` hundredths of the way from a neutral position up to the end of the range. -/
def thresholdAbove (n p : Int) : Int := n + scale (1023 - n) p

/-- The threshold that lies `p` hundredths of the way from a neutral position down to the start of the range. -/
def thresholdBelow (n p : Int) : Int := n - scale n p

theorem thresholdAbove_mem {n p : Int} (hn : 0 ≤ n ∧ n ≤ 1023) (hp : 0 ≤ p ∧ p ≤ 100) :
    n ≤ thresholdAbove n p ∧ thresholdAbove n p ≤ 1023 := by
  have hscale := scale_mem (d := 1023 - n) (by omega) hp
  unfold thresholdAbove
  omega

theorem thresholdBelow_mem {n p : Int} (hn : 0 ≤ n ∧ n ≤ 1023) (hp : 0 ≤ p ∧ p ≤ 100) :
    0 ≤ thresholdBelow n p ∧ thresholdBelow n p ≤ n := by
  have hscale := scale_mem (d := n) hn.1 hp
  unfold thresholdBelow
  omega

theorem thresholdAbove_mono {n p p' : Int} (hn : n ≤ 1023) (hp : p ≤ p') : thresholdAbove n p ≤ thresholdAbove n p' :=
  Int.add_le_add_left (scale_mono (by omega) hp) n

theorem thresholdBelow_anti {n p p' : Int} (hn : 0 ≤ n) (hp : p ≤ p') : thresholdBelow n p' ≤ thresholdBelow n p :=
  Int.sub_le_sub_left (scale_mono hn hp) n

/-- R171: what GSETCAL stores as the thresholds, as integers. -/
structure HoldsThresholds (g : GearCal) (nx ny pe pr po : Int) : Prop where
  neutX : g.neutX.toInt = nx
  neutY : g.neutY.toInt = ny
  oddTrig : g.oddTrig.toInt = thresholdAbove ny pe
  oddRel : g.oddRel.toInt = thresholdAbove ny pr
  evenTrig : g.evenTrig.toInt = thresholdBelow ny pe
  evenRel : g.evenRel.toInt = thresholdBelow ny pr
  right : g.right.toInt = thresholdAbove nx po
  left : g.left.toInt = thresholdBelow nx po

theorem gearThresholds_holds {nx ny pe pr po : Int} (hnx : 0 ≤ nx ∧ nx ≤ 1023) (hny : 0 ≤ ny ∧ ny ≤ 1023)
    (hpe : 0 ≤ pe ∧ pe ≤ 100) (hpr : 0 ≤ pr ∧ pr ≤ 100) (hpo : 0 ≤ po ∧ po ≤ 100) (rawX rawY : Half) :
    HoldsThresholds (gearThresholds nx ny pe pr po rawX rawY) nx ny pe pr po := by
  have hstored {v : Int} (hv : 0 ≤ v ∧ v ≤ 1023) : (toHalf v).toInt = v := toHalf_toInt (by omega)
  have habove {n p : Int} (hn : 0 ≤ n ∧ n ≤ 1023) (hp : 0 ≤ p ∧ p ≤ 100) :
      (toHalf (n + scale (Config.normMax - n) p)).toInt = thresholdAbove n p := by
    obtain ⟨hge, hle⟩ := thresholdAbove_mem hn hp
    exact hstored ⟨hn.1.trans hge, hle⟩
  have hbelow {n p : Int} (hn : 0 ≤ n ∧ n ≤ 1023) (hp : 0 ≤ p ∧ p ≤ 100) :
      (toHalf (n - scale (n - Config.normMin) p)).toInt = thresholdBelow n p := by
    obtain ⟨hge, hle⟩ := thresholdBelow_mem hn hp
    rw [Config.normMin, sub_zero]
    exact hstored ⟨hge, hle.trans hn.2⟩
  exact ⟨hstored hnx, hstored hny, habove hny hpe, habove hny hpr, hbelow hny hpe, hbelow hny hpr, habove hnx hpo,
    hbelow hnx hpo⟩

theorem gearCal_holds (c : CalInputs) (x y : AxisState) :
    HoldsThresholds (c.gearCal x y) (x.remap (sampleX c.gs0) 0 1023) (y.remap (sampleY c.gs0) 0 1023) (pct c.gpEng)
      (pct c.gpRel) (pct c.gpEdge) :=
  gearThresholds_holds (remap_mem_of_le (by decide) _ _) (remap_mem_of_le (by decide) _ _) (pct_mem _) (pct_mem _)
    (pct_mem _) _ _

/-- Settles O36: the axes hold the averages, the gear calibration holds the thresholds. -/
theorem gsetcalDerivesTheCalibration : Obligations.GsetcalDerivesTheCalibration := by
  refine ⟨rfl, fun s => ?_⟩
  simp only [← sampleY_eq]
  simp only [← sampleX_eq]
  obtain ⟨hxmin, hxmax⟩ := xAxis_bounds s.cal s.ax0.raw
  obtain ⟨hymin, hymax⟩ := yAxis_bounds s.cal s.ax1.raw
  have hheld := gearCal_holds s.cal (s.cal.xAxis s.ax0.raw) (s.cal.yAxis s.ax1.raw)
  exact ⟨_, rfl, rfl, rfl, rfl, hxmin, hxmax, hymin, hymax, rfl, rfl, hheld.neutX, hheld.neutY, hheld.oddTrig,
    hheld.oddRel, hheld.evenTrig, hheld.evenRel, hheld.right, hheld.left⟩

/-- Settles O37, from the integers the thresholds are. -/
theorem gsetcalOrdersTheThresholds : Obligations.GsetcalOrdersTheThresholds := by
  intro s t hexec
  obtain rfl := Host.Outcome.next.inj hexec
  have hheld := gearCal_holds s.cal (s.cal.xAxis s.ax0.raw) (s.cal.yAxis s.ax1.raw)
  have hnx := remap_mem_of_le (oMin := 0) (oMax := 1023) (by decide) (s.cal.xAxis s.ax0.raw) (sampleX s.cal.gs0)
  have hny := remap_mem_of_le (oMin := 0) (oMax := 1023) (by decide) (s.cal.yAxis s.ax1.raw) (sampleY s.cal.gs0)
  have hoddTrig := thresholdAbove_mem hny (pct_mem s.cal.gpEng)
  have hoddRel := thresholdAbove_mem hny (pct_mem s.cal.gpRel)
  have hevenTrig := thresholdBelow_mem hny (pct_mem s.cal.gpEng)
  have hevenRel := thresholdBelow_mem hny (pct_mem s.cal.gpRel)
  have hright := thresholdAbove_mem hnx (pct_mem s.cal.gpEdge)
  have hleft := thresholdBelow_mem hnx (pct_mem s.cal.gpEdge)
  simp only [List.forall_mem_cons, setGc_gc, hheld.neutX, hheld.neutY, hheld.oddTrig, hheld.oddRel, hheld.evenTrig,
    hheld.evenRel, hheld.right, hheld.left]
  refine ⟨?inRange, hleft.2, hright.1, hevenTrig.2, hoddTrig.1, fun hpr => ?release⟩
  case inRange =>
    exact ⟨hnx, hny, ⟨by omega, hoddTrig.2⟩, ⟨by omega, hoddRel.2⟩, ⟨hevenTrig.1, by omega⟩, ⟨hevenRel.1, by omega⟩,
      ⟨hleft.1, by omega⟩, ⟨by omega, hright.2⟩, List.forall_mem_nil _⟩
  case release =>
    exact ⟨thresholdBelow_anti hny.1 hpr, hevenRel.2, hoddRel.1, thresholdAbove_mono hny.2 hpr⟩

end Sys2Proof.Machine
end

section
/-! What the gear decoder chooses (`43_gear.md` R176 to R180): the slot of a position, the reverse interlock on it, and the
bounds. -/

namespace Sys2Proof.Machine

/-! The row and the column of a position (R176 steps 3 and 4). -/

theorem row_of_odd {c : GearCal} {y : Int} (hy : y > c.oddTrig.toInt) : c.row y = 1 := if_pos hy

theorem row_of_even {c : GearCal} {y : Int} (hodd : y ≤ c.oddTrig.toInt) (hy : y < c.evenTrig.toInt) : c.row y = 2 :=
  (if_neg (Int.not_lt.mpr hodd)).trans (if_pos hy)

theorem row_of_neutral {c : GearCal} {y : Int} (hodd : y ≤ c.oddTrig.toInt) (heven : c.evenTrig.toInt ≤ y) : c.row y = 0 :=
  (if_neg (Int.not_lt.mpr hodd)).trans (if_neg (Int.not_lt.mpr heven))

theorem column_of_right {c : GearCal} {x : Int} (hx : x > c.right.toInt) : c.column x = 4 := if_pos hx

theorem column_of_middle {c : GearCal} {x : Int} (hleft : c.left.toInt ≤ x) (hright : x ≤ c.right.toInt) :
    c.column x = 2 := (if_neg (Int.not_lt.mpr hright)).trans (if_pos hleft)

theorem column_of_left {c : GearCal} {x : Int} (hleft : x < c.left.toInt) (hright : x ≤ c.right.toInt) : c.column x = 0 :=
  (if_neg (Int.not_lt.mpr hright)).trans (if_neg (Int.not_le.mpr hleft))

/-! The slot of a position: its row and column together (R177). -/

/-- The gear that steps 3 and 4 give a position, before the interlock. -/
def GearCal.slot (c : GearCal) (x y : Int) : Int := if c.row y = 0 then 0 else c.row y + c.column x

theorem slot_of_neutral {c : GearCal} {y : Int} (x : Int) (hodd : y ≤ c.oddTrig.toInt) (heven : c.evenTrig.toInt ≤ y) :
    c.slot x y = 0 := if_pos (row_of_neutral hodd heven)

theorem slot_of_odd {c : GearCal} {x y : Int} (hy : y > c.oddTrig.toInt) : c.slot x y = 1 + c.column x := by
  simp [GearCal.slot, row_of_odd hy]

theorem slot_of_even {c : GearCal} {x y : Int} (hodd : y ≤ c.oddTrig.toInt) (hy : y < c.evenTrig.toInt) :
    c.slot x y = 2 + c.column x := by
  simp [GearCal.slot, row_of_even hodd hy]

theorem slot_eq_six_iff (c : GearCal) (x y : Int) :
    c.slot x y = 6 ↔ y ≤ c.oddTrig.toInt ∧ y < c.evenTrig.toInt ∧ x > c.right.toInt := by
  simp only [GearCal.slot, GearCal.row, GearCal.column]
  split_ifs <;> omega

/-- The columns as additions to the row (R176 step 4). -/
theorem slot_eq (c : GearCal) (x y : Int) : c.slot x y =
    if c.row y = 0 then 0
    else if x > c.right.toInt then c.row y + 4 else if x ≥ c.left.toInt then c.row y + 2 else c.row y := by
  unfold GearCal.slot GearCal.column
  split_ifs <;> simp

theorem slot_mem (c : GearCal) (x y : Int) : 0 ≤ c.slot x y ∧ c.slot x y ≤ 6 := by
  simp only [GearCal.slot, GearCal.row, GearCal.column]
  split_ifs <;> omega

/-! The reverse interlock (R176 step 5). -/

@[simp] theorem interlock_zero (rev : Bool) (p : Int) : interlock rev p 0 = 0 := by simp [interlock]

theorem interlock_of_free {p : Int} (hp : p ≠ -1) (g : Int) : interlock false p g = g := by simp [interlock, hp]

theorem interlock_five (p : Int) : interlock true p 5 = 0 := by simp [interlock]

theorem interlock_six {rev : Bool} {p : Int} (hrev : rev = true ∨ p = -1) : interlock rev p 6 = -1 := by
  simp [interlock, hrev]

/-- Only the slot of gear 6 is reinterpreted as reverse. -/
theorem eq_six_of_interlock {rev : Bool} {p g : Int} (hg : 0 ≤ g) (hrev : interlock rev p g = -1) : g = 6 := by
  simp only [interlock] at hrev
  split_ifs at hrev <;> omega

/-! Steps 2 to 5 together. -/

/-- Step 2: the previous gear is odd and Y above its release threshold, or even and Y below it (R176). -/
def GearCal.Retained (c : GearCal) (p y : Int) : Prop :=
  (p = 1 ∨ p = 3 ∨ p = 5) ∧ y > c.oddRel.toInt ∨ (p = 2 ∨ p = 4 ∨ p = 6) ∧ y < c.evenRel.toInt

theorem retains_eq_true_iff {c : GearCal} {p y : Int} : c.retains p y = true ↔ c.Retained p y := by
  simp [GearCal.retains, GearCal.Retained, oddGear, evenGear]

theorem choose_of_retained {c : GearCal} {p y : Int} (hret : c.Retained p y) (rev : Bool) (x : Int) :
    c.choose rev p x y = p := if_pos (retains_eq_true_iff.mpr hret)

theorem choose_of_not_retained {c : GearCal} {p y : Int} (hret : ¬ c.Retained p y) (rev : Bool) (x : Int) :
    c.choose rev p x y = interlock rev p (c.slot x y) := by
  refine (if_neg (mt retains_eq_true_iff.mp hret)).trans ?_
  unfold GearCal.slot
  split
  · rw [interlock_zero]
  · rfl

theorem choose_eq (c : GearCal) (rev : Bool) (p x y : Int) : c.choose rev p x y =
    if (p = 1 ∨ p = 3 ∨ p = 5) ∧ y > c.oddRel.toInt ∨ (p = 2 ∨ p = 4 ∨ p = 6) ∧ y < c.evenRel.toInt then p
    else interlock rev p (c.slot x y) := by
  split
  next hret => exact choose_of_retained hret rev x
  next hret => exact choose_of_not_retained hret rev x

/-- R178 (1): reverse is never retained. -/
theorem not_retained_reverse (c : GearCal) (y : Int) : ¬ c.Retained (-1) y := by
  unfold GearCal.Retained
  omega

/-! The bounds (R180). -/

theorem minGear_nonpos (s : State) : s.minGear ≤ 0 := by
  unfold State.minGear
  split <;> omega

theorem minGear_of_revEn {s : State} (hen : s.cfg[2] = true) : s.minGear = -1 := if_pos hen

theorem maxGear_nonneg (s : State) : 0 ≤ s.maxGear := Int.natCast_nonneg _

theorem boundGear_of_mem {s : State} {g : Int} (hg : s.minGear ≤ g ∧ g ≤ s.maxGear) : s.boundGear g = g := if_pos hg

theorem boundGear_of_nonneg {s : State} {g : Int} (hg : 0 ≤ g) (hmax : g ≤ s.maxGear) : s.boundGear g = g :=
  boundGear_of_mem ⟨(minGear_nonpos s).trans hg, hmax⟩

/-- With a reverse signal wired, reverse is in bounds. -/
theorem boundGear_reverse {s : State} (hen : s.cfg[2] = true) : s.boundGear (-1) = -1 := by
  have hmax := maxGear_nonneg s
  exact boundGear_of_mem ⟨(minGear_of_revEn hen).le, by omega⟩

/-- `BoundGear` makes no gear reverse: what is not in bounds becomes neutral. -/
theorem eq_reverse_of_boundGear {s : State} {g : Int} (hg : s.boundGear g = -1) : g = -1 := by
  obtain ⟨-, -, hkept⟩ | ⟨-, hzero⟩ := boundGear_cases s g
  · rw [← hkept, hg]
  · omega

end Sys2Proof.Machine
end

section
/-! GUPDATE and GGET (`43_gear.md` R174 to R182): one equation for each path of GUPDATE, and from them what the gear is after
it. -/

namespace Sys2Proof.Machine

/-! The idle path (R175). -/

theorem gearChanged_zero (p : GearVal) : gearChanged p.toInt 0 = decide (p ≠ 0) := by
  refine decide_eq_decide.mpr (not_congr ?_)
  rw [eq_comm, ← BitVec.toInt_inj]
  rfl

theorem exec_gupdate_of_not_connected {s : State} (hconn : s.conn.state ≠ .connected) :
    exec .gupdate s = .next ((gearIdle s).resBool (gearChanged s.gear.cur.toInt 0)) := by
  have hidle : gearCycle s = gearIdle s := if_neg (mt isConnected_eq_true_iff.mp hconn)
  change Host.Outcome.next (gupdate s) = _
  rw [gupdate, hidle]
  rfl

/-- Settles O38, by the equation of the idle path. -/
theorem gupdateIdlesWhenNotConnected : Obligations.GupdateIdlesWhenNotConnected := by
  refine ⟨rfl, fun s hconn => ?_⟩
  rw [exec_gupdate_of_not_connected hconn, gearIdle, gearChanged_zero, State.resBool, boolWord_decide]
  rfl

/-! The connected path (R176): the two reads leave the decoder and the reverse signal as they were. -/

theorem aread_gear (s : State) (a : Axis) : (aread a s).gear = s.gear := by
  obtain ⟨r, c, e, ht, -⟩ := aread_touches s a
  rw [ht]
  cases a <;> rfl

theorem aread_gc (s : State) (a : Axis) : (aread a s).gc = s.gc := by
  obtain ⟨r, c, e, ht, -⟩ := aread_touches s a
  rw [ht]
  cases a <;> rfl

theorem aread_revIn (s : State) (a : Axis) : (aread a s).revIn = s.revIn := by
  unfold aread State.sampled
  split <;> cases a <;> rfl

/-- The gear the decoder commits from the normalised position `x`, `y` (R176 steps 1 to 5, R180). -/
def State.decodedGear (s : State) (x y : Int) : Int := s.boundGear (s.gc.choose s.revSnapshot s.gear.cur.toInt x y)

/-- The connected path on a state whose axes are read, with the gear it commits. -/
def State.committed (s : State) (p : GearVal) (g : Int) (rev : Bool) : State :=
  ((s.afterRevSnapshot.setGear { cur := toGearVal g, prev := p, rev := rev }).setFlags
    (s.flags.withGear (gearChanged p.toInt g))).resBool (gearChanged p.toInt g)

theorem revSnapshot_congr {s t : State} (hcfg : t.cfg = s.cfg) (hrev : t.revIn = s.revIn) :
    t.revSnapshot = s.revSnapshot := by
  unfold State.revSnapshot State.revEn
  rw [hcfg, hrev]

theorem boundGear_congr {s t : State} (hcfg : t.cfg = s.cfg) (g : Int) : t.boundGear g = s.boundGear g := by
  unfold State.boundGear State.minGear State.maxGear State.revEn
  rw [hcfg]

theorem exec_gupdate_of_connected {s s2 : State} (hconn : s.conn.state = .connected)
    (hreads : runCommands [.aread .x, .aread .y] s = .next s2) :
    exec .gupdate s = .next (s2.committed s.gear.cur (s.decodedGear s2.ax0.norm s2.ax1.norm) s.revSnapshot) := by
  obtain rfl : aread .y (aread .x s) = s2 := Host.Outcome.next.inj hreads
  have hgear : (aread .y (aread .x s)).gear = s.gear := (aread_gear _ _).trans (aread_gear _ _)
  have hgc : (aread .y (aread .x s)).gc = s.gc := (aread_gc _ _).trans (aread_gc _ _)
  have hcfg : (aread .y (aread .x s)).cfg = s.cfg := (aread_cfg _ _).trans (aread_cfg _ _)
  have hrev : (aread .y (aread .x s)).revSnapshot = s.revSnapshot :=
    revSnapshot_congr hcfg ((aread_revIn _ _).trans (aread_revIn _ _))
  have hdecode : gearCycle s = (aread .y (aread .x s)).decodeGear := if_pos (isConnected_eq_true_iff.mpr hconn)
  unfold State.decodedGear
  rw [← boundGear_congr hcfg, ← hgear, ← hgc, ← hrev]
  change Host.Outcome.next (gupdate s) = _
  rw [gupdate, hdecode]
  rfl

theorem afterRevSnapshot_eq {s t : State} (hcfg : t.cfg = s.cfg) :
    t.afterRevSnapshot = if s.cfg[2] then t.takeRevIn else t := by
  unfold State.afterRevSnapshot State.revEn
  rw [hcfg]

/-- Settles O39: the equation of the connected path, with the slot, the choice and the bounds of the decode written out. -/
theorem gupdateDecodesWhenConnected : Obligations.GupdateDecodesWhenConnected := by
  intro s hconn
  refine ⟨aread .y (aread .x s), rfl, ?_⟩
  intro rev s3 x y p row slot g5 g6 g0 minGear maxGear g
  have hslot : s.gc.slot x y = slot := slot_eq s.gc x y
  have hchoose : s.gc.choose s.revSnapshot p x y = g0 := by
    rw [choose_eq, hslot]
    rfl
  have hdecoded : s.decodedGear x y = g := by
    unfold State.decodedGear
    rw [hchoose]
    rfl
  have hafter : (aread .y (aread .x s)).afterRevSnapshot = s3 :=
    afterRevSnapshot_eq ((aread_cfg _ _).trans (aread_cfg _ _))
  have hexec := exec_gupdate_of_connected hconn rfl
  rw [State.committed, hafter, State.resBool, gearChanged, boolWord_decide] at hexec
  rw [hexec, ← hdecoded]
  rfl

/-! The gear after the connected path (R177 to R180). -/

/-- The gear decoded fits its 8 bits. -/
theorem committed_cur {s s2 : State} {p : GearVal} {x y : Int} {rev : Bool} :
    (s2.committed p (s.decodedGear x y) rev).gear.cur.toInt = s.decodedGear x y :=
  toGearVal_toInt (boundGear_range s (choose_range _ _ _ _ _))

theorem decodedGear_of_retained {s : State} {y : Int} (hret : s.gc.Retained s.gear.cur.toInt y)
    (hmax : s.gear.cur.toInt ≤ s.maxGear) (x : Int) : s.decodedGear x y = s.gear.cur.toInt := by
  have hnonneg : 0 ≤ s.gear.cur.toInt := by
    unfold GearCal.Retained at hret
    omega
  rw [State.decodedGear, choose_of_retained hret, boundGear_of_nonneg hnonneg hmax]

theorem decodedGear_of_not_retained {s : State} {y : Int} (hret : ¬ s.gc.Retained s.gear.cur.toInt y) (x : Int) :
    s.decodedGear x y = s.boundGear (interlock s.revSnapshot s.gear.cur.toInt (s.gc.slot x y)) := by
  rw [State.decodedGear, choose_of_not_retained hret]

/-- Step 3 in the neutral row, whatever the interlock. -/
theorem decodedGear_of_neutral {s : State} {y : Int} (hret : ¬ s.gc.Retained s.gear.cur.toInt y)
    (hodd : y ≤ s.gc.oddTrig.toInt) (heven : s.gc.evenTrig.toInt ≤ y) (x : Int) : s.decodedGear x y = 0 := by
  rw [decodedGear_of_not_retained hret, slot_of_neutral x hodd heven, interlock_zero, boundGear_zero]

/-- Reverse not involved and every gear in bounds: the gear is the slot (R177). -/
theorem decodedGear_eq_slot {s : State} {y : Int} (hret : ¬ s.gc.Retained s.gear.cur.toInt y)
    (hp : s.gear.cur.toInt ≠ -1) (hrev : s.revSnapshot = false) (hmax : 6 ≤ s.maxGear) (x : Int) :
    s.decodedGear x y = s.gc.slot x y := by
  obtain ⟨hnonneg, hsix⟩ := slot_mem s.gc x y
  rw [decodedGear_of_not_retained hret, hrev, interlock_of_free hp, boundGear_of_nonneg hnonneg (hsix.trans hmax)]

theorem revSnapshot_of_not_pressed {s : State} (hrev : s.cfg[2] = true → s.revIn = false) : s.revSnapshot = false := by
  unfold State.revSnapshot
  split
  next hen => exact hrev hen
  next => rfl

theorem revSnapshot_of_revEn {s : State} (hen : s.cfg[2] = true) : s.revSnapshot = s.revIn := if_pos hen

/-- Settles O40: the gear is the slot, and the slot the row plus the column. -/
theorem gearGateMap : Obligations.GearGateMap := by
  intro s s2 hconn hreads hp hret hrev hmax htrig hedge
  refine ⟨_, exec_gupdate_of_connected hconn hreads, ?_⟩
  intro x y
  have hcur : (s2.committed s.gear.cur (s.decodedGear x y) s.revSnapshot).gear.cur.toInt = s.gc.slot x y :=
    committed_cur.trans (decodedGear_eq_slot hret hp (revSnapshot_of_not_pressed hrev) (Int.ofNat_le.mpr hmax) x)
  rw [hcur]
  refine ⟨fun hy hx => ?gear1, fun hy hx hx' => ?gear3, fun hy hx => ?gear5, fun hy hy' => slot_of_neutral x hy' hy,
    fun hy hx => ?gear2, fun hy hx hx' => ?gear4, fun hy hx => ?gear6⟩
  case gear1 => rw [slot_of_odd hy, column_of_left hx (hx.le.trans hedge), add_zero]
  case gear3 => rw [slot_of_odd hy, column_of_middle hx hx']; rfl
  case gear5 => rw [slot_of_odd hy, column_of_right hx]; rfl
  case gear2 => rw [slot_of_even (hy.le.trans htrig) hy, column_of_left hx (hx.le.trans hedge), add_zero]
  case gear4 => rw [slot_of_even (hy.le.trans htrig) hy, column_of_middle hx hx']; rfl
  case gear6 => rw [slot_of_even (hy.le.trans htrig) hy, column_of_right hx]; rfl

/-- A gear committed again is no change. -/
theorem committed_same (s : State) (p : GearVal) (rev : Bool) :
    (s.committed p p.toInt rev).gear.cur = p ∧ (s.committed p p.toInt rev).flags.chgGear = false ∧
    (s.committed p p.toInt rev).res = 0 := by
  have hsame : gearChanged p.toInt p.toInt = false := decide_eq_false (not_not.mpr rfl)
  exact ⟨BitVec.ofInt_toInt, hsame, congrArg boolWord hsame⟩

/-- Another gear committed is a change. -/
theorem committed_other {s : State} {p : GearVal} {g : Int} {rev : Bool} (hg : g ≠ p.toInt) :
    (s.committed p g rev).flags.chgGear = true ∧ (s.committed p g rev).res = 1 := by
  have hother : gearChanged p.toInt g = true := decide_eq_true hg
  exact ⟨hother, congrArg boolWord hother⟩

/-- Settles O41: a retained gear is committed again, and gear 3 released in neither row becomes neutral. -/
theorem hysteresisKeepsTheGear : Obligations.HysteresisKeepsTheGear := by
  intro s s2 hconn hreads hmax
  refine ⟨_, exec_gupdate_of_connected hconn hreads, ?_⟩
  intro p y
  refine ⟨fun hret => ?retained, fun hthree hrel hodd heven => ?released⟩
  case retained =>
    rw [decodedGear_of_retained hret hmax]
    obtain ⟨hcur, hchg, hres⟩ := committed_same s2 s.gear.cur s.revSnapshot
    exact ⟨hcur, rfl, hchg, hres⟩
  case released =>
    have hret : ¬ s.gc.Retained s.gear.cur.toInt y := by
      unfold GearCal.Retained
      omega
    rw [decodedGear_of_neutral hret hodd heven]
    obtain ⟨hchg, hres⟩ := committed_other (s := s2) (p := s.gear.cur) (g := 0) (rev := s.revSnapshot) (by omega)
    exact ⟨rfl, rfl, hchg, hres⟩

/-- Settles O42: beyond the right edge the odd row is slot 5 and the even row slot 6. -/
theorem reverseInterlock : Obligations.ReverseInterlock := by
  intro s s2 hconn hreads hen hpressed hret hx
  have hrev : s.revSnapshot = true := (revSnapshot_of_revEn hen).trans hpressed
  refine ⟨_, exec_gupdate_of_connected hconn hreads, hrev, fun hy => ?slot5, fun hodd heven => ?slot6⟩
  case slot5 =>
    have hslot : s.gc.slot s2.ax0.norm s2.ax1.norm = 5 := by rw [slot_of_odd hy, column_of_right hx]; rfl
    rw [committed_cur, decodedGear_of_not_retained hret, hslot, hrev, interlock_five, boundGear_zero]
  case slot6 =>
    have hslot : s.gc.slot s2.ax0.norm s2.ax1.norm = 6 := (slot_eq_six_iff _ _ _).mpr ⟨hodd, heven, hx⟩
    rw [committed_cur, decodedGear_of_not_retained hret, hslot, interlock_six (.inl hrev), boundGear_reverse hen]

/-- Settles O43: from reverse, the slot of gear 6 and no other gives reverse. -/
theorem reverseStaysInItsSlot : Obligations.ReverseStaysInItsSlot := by
  intro s s2 hconn hreads hen hp htrig
  refine ⟨_, exec_gupdate_of_connected hconn hreads, ?_⟩
  have hret : ¬ s.gc.Retained s.gear.cur.toInt s2.ax1.norm := hp ▸ not_retained_reverse _ _
  rw [committed_cur, decodedGear_of_not_retained hret]
  constructor
  · intro hreverse
    have hslot := eq_six_of_interlock (slot_mem _ _ _).1 (eq_reverse_of_boundGear hreverse)
    exact ((slot_eq_six_iff _ _ _).mp hslot).2
  · rintro ⟨heven, hx⟩
    rw [(slot_eq_six_iff _ _ _).mpr ⟨heven.le.trans htrig, heven, hx⟩, interlock_six (.inr hp), boundGear_reverse hen]

/-! Both paths, and GGET. -/

/-- Settles O44: on either path GUPDATE commits a gear in bounds. -/
theorem gearStaysInBounds : Obligations.GearStaysInBounds := by
  intro s t hexec
  obtain rfl : gupdate s = t := Host.Outcome.next.inj hexec
  obtain ⟨x, y, g, rev, c0, c1, e, ht, hrange, hbounds, -⟩ := gupdate_touches s
  have hcur : (gupdate s).gear.cur.toInt = g := by
    rw [ht]
    exact toGearVal_toInt hrange
  rw [hcur]
  exact hbounds

/-- Settles O45: the gear sign-extended is the gear's integer as 32 bits hold it. -/
theorem ggetReadsTheGear : Obligations.GgetReadsTheGear := ⟨rfl, fun _ => ⟨rfl, rfl⟩⟩

end Sys2Proof.Machine
end

section
/-! SSETCAL (`44_seq.md` R201, R202): each threshold lies on the way from the neutral sample to the up or to the down sample,
so 16 bits hold it exactly; with the expected wiring the four are in order. -/

namespace Sys2Proof.Machine

/-- Rounding toward zero treats both signs alike (R9). -/
theorem scale_neg (d p : Int) : scale (-d) p = -scale d p := by
  rw [scale, neg_mul]
  exact Int.neg_tdiv _ _

/-- The point that lies `p` hundredths of the way from the sample `n` to the sample `e`, above it or below. -/
def pointToward (n e p : Int) : Int := n + scale (e - n) p

/-- A point on the way down, as R201 writes it. -/
theorem sub_scale_eq_pointToward (n e p : Int) : n - scale (n - e) p = pointToward n e p := by
  rw [pointToward, ← neg_sub n e, scale_neg, sub_eq_add_neg]

theorem pointToward_mem {lo hi n e p : Int} (hn : lo ≤ n ∧ n ≤ hi) (he : lo ≤ e ∧ e ≤ hi) (hp : 0 ≤ p ∧ p ≤ 100) :
    lo ≤ pointToward n e p ∧ pointToward n e p ≤ hi := by
  obtain hup | hdn := le_total n e
  · have hscale := scale_mem (d := e - n) (by omega) hp
    unfold pointToward
    omega
  · have hscale := scale_mem (d := n - e) (by omega) hp
    rw [← sub_scale_eq_pointToward]
    omega

/-- Each point on the way from one stored sample to another is stored exactly (R201). -/
theorem toHalf_pointToward_toInt (n e : Half) {p : Int} (hp : 0 ≤ p ∧ p ≤ 100) :
    (toHalf (pointToward n.toInt e.toInt p)).toInt = pointToward n.toInt e.toInt p :=
  toHalf_toInt (pointToward_mem (half_toInt_mem n) (half_toInt_mem e) hp)

/-- The release is lowered to the engage, so the two are in order (R201). -/
theorem seqRelease_le (c : CalInputs) : c.seqRelease ≤ pct c.sqpEng := by
  unfold CalInputs.seqRelease
  split <;> omega

/-- The release is one of the two clamped percentages. -/
theorem seqRelease_mem (c : CalInputs) : 0 ≤ c.seqRelease ∧ c.seqRelease ≤ 100 := by
  unfold CalInputs.seqRelease
  split
  · exact pct_mem c.sqpEng
  · exact pct_mem c.sqpRel

/-- What SSETCAL stores, as integers (R201). -/
theorem seqCal_toInt (c : CalInputs) :
    c.seqCal.upTrig.toInt = c.sqNeu.toInt + scale (c.sqUp.toInt - c.sqNeu.toInt) (pct c.sqpEng) ∧
    c.seqCal.upRel.toInt = c.sqNeu.toInt + scale (c.sqUp.toInt - c.sqNeu.toInt) c.seqRelease ∧
    c.seqCal.dnTrig.toInt = c.sqNeu.toInt - scale (c.sqNeu.toInt - c.sqDn.toInt) (pct c.sqpEng) ∧
    c.seqCal.dnRel.toInt = c.sqNeu.toInt - scale (c.sqNeu.toInt - c.sqDn.toInt) c.seqRelease := by
  have heng := pct_mem c.sqpEng
  have hrel := seqRelease_mem c
  simp only [CalInputs.seqCal, sub_scale_eq_pointToward]
  exact ⟨toHalf_pointToward_toInt _ _ heng, toHalf_pointToward_toInt _ _ hrel, toHalf_pointToward_toInt _ _ heng,
    toHalf_pointToward_toInt _ _ hrel⟩

/-- Settles O46, from the integers the thresholds are. -/
theorem ssetcalDerivesTheCalibration : Obligations.SsetcalDerivesTheCalibration :=
  ⟨rfl, fun s => ⟨_, rfl, rfl, seqCal_toInt s.cal⟩⟩

/-- Settles O47: on a range that is not negative a scaled distance grows with its percentage, and the release is at most the
engage. -/
theorem ssetcalOrdersTheThresholds : Obligations.SsetcalOrdersTheThresholds := by
  intro s t hexec hdn hup
  obtain rfl : s.setSc s.cal.seqCal = t := Host.Outcome.next.inj hexec
  obtain ⟨hupTrig, hupRel, hdnTrig, hdnRel⟩ := seqCal_toInt s.cal
  have hlowered := seqRelease_le s.cal
  have hrel := seqRelease_mem s.cal
  have hupRange : 0 ≤ s.cal.sqUp.toInt - s.cal.sqNeu.toInt := by omega
  have hdnRange : 0 ≤ s.cal.sqNeu.toInt - s.cal.sqDn.toInt := by omega
  rw [setSc_sc, hupTrig, hupRel, hdnTrig, hdnRel]
  exact ⟨Int.sub_le_sub_left (scale_mono hdnRange hlowered) _, Int.sub_le_self _ (scale_mem hdnRange hrel).1,
    Int.le_add_of_nonneg_right (scale_mem hupRange hrel).1, Int.add_le_add_left (scale_mono hupRange hlowered) _⟩

end Sys2Proof.Machine
end

section
/-! SSTEP and SGET (`44_seq.md` R203 to R206), and what SSTEP makes of an UPDATE (`46_top.md` R263): when the mode is
sequential, and one equation for each mode. -/

namespace Sys2Proof.Machine

/-! The mode (R203). -/

theorem seqSampled_eq_true_iff {s : State} : s.seqSampled = true ↔ s.cfg[3] = true ∧ s.conn.state = .connected := by
  rw [State.seqSampled, Bool.and_eq_true, isConnected_eq_true_iff]
  rfl

theorem seqMode_of_sampled {s : State} (hsampled : s.seqSampled = true) : s.seqMode = s.seqModeIn := if_pos hsampled

theorem seqMode_of_not_sampled {s : State} (hsampled : ¬ s.seqSampled = true) : s.seqMode = false := if_neg hsampled

theorem afterSeqMode_of_sampled {s : State} (hsampled : s.seqSampled = true) : s.afterSeqMode = s.takeSeqModeIn :=
  if_pos hsampled

theorem afterSeqMode_of_not_sampled {s : State} (hsampled : ¬ s.seqSampled = true) : s.afterSeqMode = s := if_neg hsampled

/-- `seqmode_in` is sampled wherever the mode is sequential. -/
theorem seqSampled_of_seqMode {s : State} (hmode : s.seqMode = true) : s.seqSampled = true := by
  by_contra hsampled
  rw [seqMode_of_not_sampled hsampled] at hmode
  cases hmode

/-! The cycle (R203). -/

/-- The tri-states differ as integers exactly when their bits do. -/
theorem seqChanged_eq (old new : BitVec 2) : seqChanged old.toInt new.toInt = decide (new ≠ old) :=
  decide_eq_decide.mpr (not_congr BitVec.toInt_inj)

/-- The gear decoder in sequential mode: the gear is forced to neutral, on the first cycle twice (R203, R204). -/
def State.forcedGear (s : State) : Gear := { s.gear with prev := if s.seq.active then s.gear.cur else 0, cur := 0 }

theorem seqForce_eq (s : State) : s.seqForce = s.setGear s.forcedGear := by
  simp only [State.seqForce, State.forcedGear, gearForce_zero]
  split <;> rfl

/-- The end of a cycle: the sequential decoder is stored, and whether the tri-state changed is reported (R203). -/
def State.seqCommitted (s : State) (q : Seq) (f : Flags) (changed : Bool) : State :=
  ((s.setSeq q).setFlags (f.withSeq changed)).resBool changed

/-- Sequential mode: one-sided hysteresis, with the gear forced to neutral and its change suppressed. -/
theorem sstep_of_seqMode {s : State} (hsampled : s.seqSampled = true) (hmode : s.seqMode = true) {new : BitVec 2}
    (hnew : s.sc.next s.seq.state s.ax1.raw.toInt = new) :
    sstep s = (s.takeSeqModeIn.setGear s.forcedGear).seqCommitted { state := new, active := true }
      (s.flags.withGear false) (decide (new ≠ s.seq.state)) := by
  have hnext : s.seqNext = new := (if_pos hmode).trans hnew
  have hgear : s.seqGear = s.takeSeqModeIn.setGear s.forcedGear := by
    rw [State.seqGear, if_pos hmode, afterSeqMode_of_sampled hsampled, seqForce_eq]
    rfl
  have hflags : s.seqFlags = (s.flags.withGear false).withSeq (decide (new ≠ s.seq.state)) := by
    rw [State.seqFlags, if_pos hmode, seqChanged_eq, hnext]
  rw [sstep, hgear, hnext, hflags, hmode]
  rfl

/-- Out of sequential mode: the tri-state returns to neutral, and the gear decoder is left alone. -/
theorem sstep_of_not_seqMode {s : State} (hmode : s.seqMode = false) :
    sstep s = s.afterSeqMode.seqCommitted { state := 0, active := false } s.flags (decide (s.seq.state ≠ 0)) := by
  have hnext : s.seqNext = 0 := by simp [State.seqNext, hmode]
  have hgear : s.seqGear = s.afterSeqMode := by simp [State.seqGear, hmode]
  have hflags : s.seqFlags = s.flags.withSeq (decide (s.seq.state ≠ 0)) := by
    rw [State.seqFlags, hmode, seqChanged_eq, hnext, decide_eq_decide.mpr ne_comm]
    rfl
  rw [sstep, hgear, hnext, hflags, hmode]
  rfl

theorem exec_sstep (s : State) : exec .sstep s = .next (sstep s) := rfl

/-- Settles O48, by the mode: sampled and sequential, not sampled, sampled and not sequential. -/
theorem sstepFollowsItsMode : Obligations.SstepFollowsItsMode := by
  refine ⟨rfl, fun s => ⟨fun hen hconn hin => ?sequential, fun hunused => ?notSampled, fun hen hconn hout => ?left⟩⟩
  case sequential =>
    intro y new
    have hsampled := seqSampled_eq_true_iff.mpr ⟨hen, hconn⟩
    have hmode := (seqMode_of_sampled hsampled).trans hin
    have hnew : s.sc.next s.seq.state s.ax1.raw.toInt = new := rfl
    rw [exec_sstep, sstep_of_seqMode hsampled hmode hnew, State.seqCommitted, State.resBool, boolWord_decide,
      Feed.after_one, takeSeqModeIn_eq, State.forcedGear]
    clear_value new
    simp only [State.setRes, State.setFlags, State.setSeq, State.setGear, State.setEnv, Flags.withSeq, Flags.withGear]
  case notSampled =>
    have hsampled : ¬ s.seqSampled = true := by
      rw [seqSampled_eq_true_iff]
      rintro ⟨hen, hconn⟩
      simp [hen, hconn] at hunused
    rw [exec_sstep, sstep_of_not_seqMode (seqMode_of_not_sampled hsampled), afterSeqMode_of_not_sampled hsampled,
      State.seqCommitted, State.resBool, boolWord_decide]
    rfl
  case left =>
    have hsampled := seqSampled_eq_true_iff.mpr ⟨hen, hconn⟩
    have hmode := (seqMode_of_sampled hsampled).trans hout
    rw [exec_sstep, sstep_of_not_seqMode hmode, afterSeqMode_of_sampled hsampled, State.seqCommitted, State.resBool,
      boolWord_decide, Feed.after_one]
    rfl

/-! SSTEP as the last call of an UPDATE (R204, R263). -/

/-- Only SSTEP, and UPDATE that calls it, writes the sequential decoder. -/
theorem seq_of_exec {i : Instr} {s t : State} (hexec : exec i s = .next t) (hupdate : i ≠ .update) (hsstep : i ≠ .sstep) :
    t.seq = s.seq := by
  obtain ⟨-, -, -, -, -, -, -, -, hseq, -⟩ := onlyItsCommandsWriteAnElement i s t hexec
  exact (hseq hupdate hsstep).1

/-- When the last call of an UPDATE begins, the sequential decoder is as the UPDATE found it. -/
theorem seq_before_sstep (s : State) : (gupdate (bservice (cpoll s))).seq = s.seq := by
  have hcpoll : (cpoll s).seq = s.seq := seq_of_exec (i := .cpoll) rfl (by simp) (by simp)
  have hbservice : (bservice (cpoll s)).seq = (cpoll s).seq := seq_of_exec (i := .bservice) rfl (by simp) (by simp)
  have hgupdate : (gupdate (bservice (cpoll s))).seq = (bservice (cpoll s)).seq :=
    seq_of_exec (i := .gupdate) rfl (by simp) (by simp)
  rw [hgupdate, hbservice, hcpoll]

/-- R204: an SSTEP that leaves sequential mode active was connected, forced the gear and suppressed its change. -/
theorem sstep_of_active {s : State} (hactive : (sstep s).seq.active = true) :
    (sstep s).gear = s.forcedGear ∧ (sstep s).flags.chgGear = false ∧ (sstep s).conn.state = .connected := by
  have hmode : s.seqMode = true := hactive
  have hsampled := seqSampled_of_seqMode hmode
  rw [sstep_of_seqMode hsampled hmode rfl]
  exact ⟨rfl, rfl, (seqSampled_eq_true_iff.mp hsampled).2⟩

/-- Settles O49: UPDATE ends with SSTEP, and then only reports `CHG` (R262). -/
theorem sequentialModeSuppressesTheGear : Obligations.SequentialModeSuppressesTheGear := by
  intro s t hexec hactive
  obtain rfl := Host.Outcome.next.inj hexec
  obtain ⟨hgear, hchgGear, hconn⟩ : (updateCalls s).gear = (gupdate (bservice (cpoll s))).forcedGear ∧
      (updateCalls s).flags.chgGear = false ∧ (updateCalls s).conn.state = .connected := sstep_of_active hactive
  have hcur : (updateCalls s).gear.cur = 0 := congrArg Gear.cur hgear
  have hchg : anyChanged (updateCalls s).flags = ((updateCalls s).flags.chgBtn || (updateCalls s).flags.chgSeq) := by
    rw [anyChanged, hchgGear, Bool.or_false]
  have hprev (hfirst : s.seq.active = false) : (updateCalls s).gear.prev = 0 := by
    rw [hgear, State.forcedGear, seq_before_sstep, hfirst]
    rfl
  exact ⟨hcur, hchgGear, hchg, hconn, hprev⟩

/-- Settles O50: the tri-state sign-extended is the tri-state's integer as 32 bits hold it. -/
theorem sgetReadsTheTriState : Obligations.SgetReadsTheTriState := ⟨rfl, fun _ => ⟨rfl, rfl⟩⟩

end Sys2Proof.Machine
end

section
/-! BSERVICE (`45_srb.md` R221 to R225): which path it takes, what each path makes of the lines and of the word, and from
them the whole next state. -/

namespace Sys2Proof.Machine

theorem busOn_eq_true_iff {s : State} : s.busOn = true ↔ s.cfg[4] = true ∧ s.conn.state = .connected := by
  rw [State.busOn, Bool.and_eq_true, isConnected_eq_true_iff]
  rfl

/-- What BSERVICE does once the lines are served: the cache shifts to the word of this service, and the difference is
reported (R221). -/
theorem exec_bservice (s : State) : exec .bservice s = .next { s.serviceLines with
    srb := { s.serviceLines.srb with cur := s.serviceWord, prev := s.srb.cur }
    flags := s.flags.withBtn (buttonsChanged s.serviceWord s.srb.cur)
    res := boolWord (buttonsChanged s.serviceWord s.srb.cur) } := by
  change Host.Outcome.next (bservice s) = _
  simp only [bservice, State.resBool, State.setRes, State.setFlags, State.setSrb]

/-! The connected path (R222, R224, R225). -/

theorem serviceLines_of_driven {s : State} (hon : s.busOn = true) (hdriven : s.srb.driven = true) :
    s.serviceLines = s.shiftIn := by
  rw [State.serviceLines, if_pos hon, State.busReady, if_pos hon, if_pos hdriven]

theorem serviceLines_of_undriven {s : State} (hon : s.busOn = true) (hdriven : s.srb.driven = false) :
    s.serviceLines = s.busDrive.shiftIn := by
  rw [State.serviceLines, if_pos hon, State.busReady, if_pos hon, if_neg (Bool.eq_false_iff.mp hdriven)]

/-- R225: sample `i` lands in bit `15 − i`. -/
theorem shiftWord_getLsbD (s : State) {i : Nat} (hi : i < 16) :
    s.shiftWord.getLsbD (15 - i) = s.env.srData.nth Config.freeSrData i := by
  have hindex : 16 - 1 - (15 - i) = i := by omega
  rw [State.shiftWord, shiftLoop_word 16 le_rfl, if_pos (by omega), hindex]
  rfl

theorem busDrive_srData (s : State) : s.busDrive.env.srData = s.env.srData := by
  rw [busDrive_eq]
  rfl

theorem busReady_srData {s : State} (hon : s.busOn = true) : s.busReady.env.srData = s.env.srData := by
  rw [State.busReady, if_pos hon]
  split
  · rfl
  · exact busDrive_srData s

theorem serviceWord_getLsbD {s : State} (hon : s.busOn = true) {i : Nat} (hi : i < 16) :
    s.serviceWord.getLsbD (15 - i) = s.env.srData.nth Config.freeSrData i := by
  rw [State.serviceWord, if_pos hon, shiftWord_getLsbD _ hi, busReady_srData hon]

/-- Settles O51: ShiftIn on lines already driven, or after BusDrive, which takes no sample. -/
theorem bserviceReadsTheButtonWord : Obligations.BserviceReadsTheButtonWord := by
  refine ⟨rfl, fun s hen hconn => ?_⟩
  have hon := busOn_eq_true_iff.mpr ⟨hen, hconn⟩
  refine ⟨s.serviceWord, fun i hi => serviceWord_getLsbD hon hi, ?_⟩
  rw [exec_bservice, buttonsChanged, boolWord_decide]
  cases hdriven : s.srb.driven
  case true =>
    rw [serviceLines_of_driven hon hdriven, shiftIn_eq]
    simp [hdriven, Flags.withBtn, State.setPin, State.setEnv]
  case false =>
    have hsamples : s.busDrive.busSamples = s.busSamples := by rw [State.busSamples, busDrive_srData, State.busSamples]
    rw [serviceLines_of_undriven hon hdriven, shiftIn_eq, hsamples, busDrive_eq]
    cases hled : s.cfg[5] <;> simp [State.ledEn, hled, Flags.withBtn, State.setSrb, State.setPin, State.setEnv]

/-! The idle path (R223). -/

theorem serviceWord_of_off {s : State} (hoff : ¬ s.busOn = true) : s.serviceWord = 0 := if_neg hoff

theorem serviceLines_of_off {s : State} (hoff : ¬ s.busOn = true) :
    s.serviceLines = if s.srb.driven then s.busRelease else s := by
  rw [State.serviceLines, if_neg hoff, State.busReady, if_neg hoff]

/-- Settles O52: BusRelease on driven lines, and no bus activity on released ones. -/
theorem bserviceReleasesWhenNotConnected : Obligations.BserviceReleasesWhenNotConnected := by
  intro s hidle
  have hoff : ¬ s.busOn = true := by
    rw [busOn_eq_true_iff]
    rintro ⟨hen, hconn⟩
    simp [hen, hconn] at hidle
  have hchanged : buttonsChanged 0 s.srb.cur = decide (s.srb.cur ≠ 0) := decide_eq_decide.mpr ne_comm
  rw [exec_bservice, serviceWord_of_off hoff, serviceLines_of_off hoff, hchanged, boolWord_decide]
  cases hdriven : s.srb.driven
  case true =>
    rw [busRelease_eq]
    rfl
  case false =>
    simp [hdriven, Flags.withBtn]

end Sys2Proof.Machine
end

section
/-! BSETLED, the button queries and DPAD (`45_srb.md` R226 to R234). -/

namespace Sys2Proof.Machine

/-- Settles O54, by the test BSETLED makes: whether the LED line is driven. -/
theorem bsetledRemembersTheCommand : Obligations.BsetledRemembersTheCommand := by
  refine ⟨rfl, fun s => ⟨fun hdriven hled => ?driven, fun hunused => ?remembered⟩⟩
  case driven => exact congrArg Host.Outcome.next (if_pos ⟨hdriven, hled⟩)
  case remembered =>
    have hoff : ¬ (s.srb.driven = true ∧ s.ledEn = true) := by
      rintro ⟨hdriven, hled⟩
      rw [State.ledEn] at hled
      simp [hdriven, hled] at hunused
    exact congrArg Host.Outcome.next (if_neg hoff)

/-! Words of format N as an opcode word plus the button's number (R102). -/

theorem append_buttonByte_eq_add (o : BitVec 8) {n : Nat} (hn : n < 16) :
    o ++ buttonByte n = (o ++ 0#8) + BitVec.ofNat 16 n := by
  apply BitVec.eq_of_toNat_eq
  have ho := o.isLt
  rw [BitVec.toNat_add, toNat_append_eq_add, toNat_append_eq_add, buttonByte]
  simp only [BitVec.toNat_ofNat]
  omega

theorem decode_opcode_add {i : Instr} (o : BitVec 8) {n : Nat} (hn : n < 16) (hwf : i.wellFormed = true)
    (hencode : encode i = o ++ buttonByte n) : decode ((o ++ 0#8) + BitVec.ofNat 16 n) = .ok i := by
  rw [← append_buttonByte_eq_add o hn, ← hencode]
  exact decodeOfEncode i hwf

/-! The queries (R228 to R232). -/

theorem boolWord_eq_ite {b : Bool} {p : Prop} [Decidable p] (h : b = true ↔ p) : boolWord b = if p then 1 else 0 :=
  if_congr h rfl rfl

theorem boolWord_or (b c : Bool) : boolWord (b || c) = boolWord b ||| boolWord c := by
  cases b <;> cases c <;> rfl

theorem boolWord_eq_one_iff {b : Bool} : boolWord b = 1 ↔ b = true := by
  cases b <;> decide

/-- A query answers a boolean in `RES` and changes nothing else. -/
theorem exec_query_eq_ite {i : Instr} {s : State} {b : Bool} {p : Prop} [Decidable p]
    (hexec : exec i s = .next (s.resBool b)) (h : b = true ↔ p) :
    exec i s = .next { s with res := if p then 1 else 0 } := by
  rw [hexec, State.resBool, boolWord_eq_ite h]
  rfl

theorem res_of_exec_query {i : Instr} {s t : State} {b : Bool} (hexec : exec i s = .next (s.resBool b))
    (ht : exec i s = .next t) : t.res = boolWord b := by
  obtain rfl := Host.Outcome.next.inj (hexec.symm.trans ht)
  rfl

theorem exec_bany (s : State) : exec .bany s = .next (s.resBool (buttonsChanged s.srb.cur s.srb.prev)) := rfl

/-- Two words differ exactly when a button differs. -/
theorem buttonsChanged_iff {v w : Half} : buttonsChanged v w = true ↔ ∃ m, m < 16 ∧ v.getLsbD m ≠ w.getLsbD m := by
  rw [buttonsChanged, decide_eq_true_iff]
  constructor
  · intro hne
    by_contra hsame
    push Not at hsame
    exact hne (BitVec.eq_of_getLsbD_eq hsame)
  · rintro ⟨m, -, hm⟩ rfl
    exact hm rfl

/-- A press, or with the words exchanged a release, bit by bit. -/
theorem press_iff {c p : Bool} : (c && !p) = true ↔ c = true ∧ p = false := by
  rw [Bool.and_eq_true, Bool.not_eq_true']

/-- A change is a press or a release (R229, R231, R232). -/
theorem xor_eq_press_or_release (c p : Bool) : (c ^^ p) = (c && !p || p && !c) := by
  cases c <;> cases p <;> rfl

/-- BSERVICE leaves in `CHG_BTN` the comparison of the two words it leaves in the cache (R221, R230). -/
theorem bservice_chgBtn (s : State) :
    (bservice s).flags.chgBtn = buttonsChanged (bservice s).srb.cur (bservice s).srb.prev := rfl

/-- Settles O55: each query answers a boolean of the two cached words, and the agreements are those of the booleans. -/
theorem buttonQueries : Obligations.ButtonQueries := by
  refine ⟨fun n hn => ?decodes, rfl, fun s n _ => ⟨exec_query_eq_ite rfl Iff.rfl, exec_query_eq_ite rfl bne_iff_ne,
    exec_query_eq_ite rfl press_iff, exec_query_eq_ite rfl press_iff, exec_query_eq_ite (exec_bany s) decide_eq_true_iff,
    ?split, ?bits, ?flag⟩⟩
  case decodes =>
    have hwf := decide_eq_true hn
    exact ⟨decode_opcode_add 0x52 hn hwf rfl, decode_opcode_add 0x53 hn hwf rfl, decode_opcode_add 0x55 hn hwf rfl,
      decode_opcode_add 0x56 hn hwf rfl⟩
  case split =>
    intro c p r hchg hprs hrel
    rw [res_of_exec_query rfl hchg, res_of_exec_query rfl hprs, res_of_exec_query rfl hrel, xor_eq_press_or_release,
      boolWord_or]
  case bits =>
    intro y hany
    rw [res_of_exec_query (exec_bany s) hany, boolWord_eq_one_iff, buttonsChanged_iff]
  case flag =>
    intro u y hservice hany
    obtain rfl : bservice s = u := Host.Outcome.next.inj hservice
    rw [res_of_exec_query (exec_bany _) hany, bservice_chgBtn]
    rfl

/-! DPAD (R233, R234). -/

/-- The direction in degrees, clockwise from up, of four cardinals of which no two oppose each other; −1 for none. -/
def cardinalAngle (up right down left : Bool) : Int :=
  if up then (if right then 45 else if left then 315 else 0)
  else if down then (if right then 135 else if left then 225 else 180)
  else if right then 90 else if left then 270 else -1

/-- The sixteen rows of R233 follow from the rule: opposing cardinals are cleaned, what remains is a direction. -/
theorem dpadAngle_eq_cardinalAngle : ∀ u r d l : Bool,
    dpadAngle (dpadIndex (BitVec.ofBool l ++ BitVec.ofBool d ++ BitVec.ofBool r ++ BitVec.ofBool u)) =
      cardinalAngle (u && !d) (r && !l) (d && !u) (l && !r) := by decide

/-- Settles O56, by the rows of the table. -/
theorem dpadCleansOpposites : Obligations.DpadCleansOpposites :=
  ⟨rfl, fun s => congrArg (fun angle => Host.Outcome.next (s.resInt angle)) (dpadAngle_eq_cardinalAngle _ _ _ _)⟩

end Sys2Proof.Machine
end

section
/-! NOP and UPDATE (`46_top.md` R260 to R263): UPDATE as a change of state, what it leaves when it ends not connected, and
how UPDATEs that stay not connected settle. -/

namespace Sys2Proof.Machine

/-- Settles O57, by NOP's meaning. -/
theorem nopChangesNothing : Obligations.NopChangesNothing := ⟨rfl, fun _ => rfl⟩

/-! UPDATE as a change of state (R262). -/

/-- The end of an UPDATE, after its four calls: `CHG` is written, and `RES` tells it (R262). -/
def State.reported (s : State) : State := (s.setFlags (s.flags.withChg (anyChanged s.flags))).resBool (anyChanged s.flags)

/-- UPDATE (R262), as a change of state. -/
def update (s : State) : State := (updateCalls s).reported

theorem exec_update (s : State) : exec .update s = .next (update s) := rfl

theorem runCommands_updateCalls (s : State) :
    runCommands [.cpoll, .bservice, .gupdate, .sstep] s = .next (updateCalls s) := rfl

/-- Settles O58: the state between the calls and the report is the one the four commands leave. -/
theorem updateRunsTheFourCalls : Obligations.UpdateRunsTheFourCalls :=
  ⟨rfl, fun s => ⟨updateCalls s, runCommands_updateCalls s, exec_update s⟩⟩

/-- After an UPDATE `RES` tells `CHG`. -/
theorem update_res (s : State) : (update s).res = boolWord (update s).flags.chg := rfl

/-! The disconnected path (R263 (1)). -/

/-- Only CPOLL, and UPDATE that calls it, moves the connection state. -/
theorem connState_of_exec {i : Instr} {s t : State} (hexec : exec i s = .next t) (hupdate : i ≠ .update)
    (hcpoll : i ≠ .cpoll) : t.conn.state = s.conn.state := by
  obtain ⟨-, -, -, -, -, -, -, -, -, -, -, -, -, -, -, -, -, -, hconn, -⟩ := onlyItsCommandsWriteAnElement i s t hexec
  exact (hconn hupdate hcpoll).1

theorem bservice_connState (s : State) : (bservice s).conn.state = s.conn.state :=
  connState_of_exec (i := .bservice) rfl (by simp) (by simp)

theorem gupdate_connState (s : State) : (gupdate s).conn.state = s.conn.state :=
  connState_of_exec (i := .gupdate) rfl (by simp) (by simp)

theorem sstep_connState (s : State) : (sstep s).conn.state = s.conn.state :=
  connState_of_exec (i := .sstep) rfl (by simp) (by simp)

/-- R262: the three later calls all see the connection state that CPOLL left. -/
theorem updateCalls_connState (s : State) : (updateCalls s).conn.state = (cpoll s).conn.state := by
  rw [updateCalls, sstep_connState, gupdate_connState, bservice_connState]

/-- The four calls on the disconnected path, CPOLL's monitor and the lines apart: the word, the gear and the tri-state go
idle, the buffers to the raw neutral pair, and each call reports whether it changed its value (R175, R203, R221, R263). -/
def State.idled (s : State) (c : Conn) (p : Pins) (e : Env) : State :=
  { s with
    conn := c
    pin := p
    env := e
    srb := { s.srb with cur := 0, prev := s.srb.cur, driven := false }
    ax0 := { s.ax0 with raw := s.gc.nrawX }
    ax1 := { s.ax1 with raw := s.gc.nrawY }
    gear := { s.gear with prev := s.gear.cur, cur := 0 }
    seq := { state := 0, active := false }
    flags := { s.flags with
      chgBtn := decide (s.srb.cur ≠ 0)
      chgGear := decide (s.gear.cur ≠ 0)
      chgSeq := decide (s.seq.state ≠ 0) }
    res := if s.seq.state ≠ 0 then 1 else 0 }

/-- Each call in its equation off the connected path: BSERVICE (O52), GUPDATE (O38), SSTEP (O48). -/
theorem updateCalls_of_not_connected {s : State} (hconn : (cpoll s).conn.state ≠ .connected) :
    updateCalls s = s.idled (cpoll s).conn (bservice (cpoll s)).pin (bservice (cpoll s)).env := by
  obtain ⟨c, e, hcpoll, -⟩ := cpoll_touches s
  have hserviced : (bservice (cpoll s)).conn.state ≠ .connected := bservice_connState (cpoll s) ▸ hconn
  have hgeared : (gupdate (bservice (cpoll s))).conn.state ≠ .connected :=
    gupdate_connState (bservice (cpoll s)) ▸ hserviced
  obtain ⟨-, hidle, -⟩ := sstepFollowsItsMode.2 (gupdate (bservice (cpoll s)))
  have hbservice := Host.Outcome.next.inj (bserviceReleasesWhenNotConnected (cpoll s) (.inr hconn))
  have hgupdate := Host.Outcome.next.inj (gupdateIdlesWhenNotConnected.2 (bservice (cpoll s)) hserviced)
  have hsstep := Host.Outcome.next.inj (hidle (.inr hgeared))
  rw [updateCalls, hsstep, hgupdate, hbservice, hcpoll]
  rfl

/-- Settles O59: what the disconnected path leaves, read off field by field. -/
theorem updateGoesIdleWhenNotConnected : Obligations.UpdateGoesIdleWhenNotConnected := by
  intro s t hexec hconn
  obtain rfl := Host.Outcome.next.inj ((exec_update s).symm.trans hexec)
  have hpolled : (cpoll s).conn.state ≠ .connected := updateCalls_connState s ▸ hconn
  rw [update, updateCalls_of_not_connected hpolled]
  exact ⟨rfl, rfl, rfl, rfl, rfl, rfl, rfl, rfl, rfl, rfl⟩

/-! UPDATE after UPDATE while not connected (R263 (3)). -/

theorem runCommands_replicate_update (n : Nat) (s : State) :
    runCommands (List.replicate n .update) s = .next (update^[n] s) := runCommands_replicate exec_update n s

theorem exec_update_iterate (n : Nat) (s : State) : exec .update (update^[n] s) = .next (update^[n + 1] s) := by
  rw [Function.iterate_succ_apply', exec_update]

/-- An UPDATE that ends not connected, on a state already idle, reports no change. -/
theorem update_of_idle {s t : State} (hexec : exec .update s = .next t) (hconn : t.conn.state ≠ .connected)
    (hword : s.srb.cur = 0) (hgear : s.gear.cur = 0) (hseq : s.seq.state = 0) : t.flags.chg = false ∧ t.res = 0 := by
  obtain ⟨-, -, -, -, -, -, -, -, -, hchg⟩ := updateGoesIdleWhenNotConnected s t hexec hconn
  have hnone : t.flags.chg = false := by simp [hchg, hword, hgear, hseq]
  obtain rfl := Host.Outcome.next.inj ((exec_update s).symm.trans hexec)
  refine ⟨hnone, ?_⟩
  rw [update_res, hnone]
  rfl

/-- Settles O60: by O59 the last UPDATE but one leaves the device idle, so the last one finds nothing to change. -/
theorem idleUpdatesReportNoChange : Obligations.IdleUpdatesReportNoChange := by
  intro n s t hidle hrun
  obtain rfl := Host.Outcome.next.inj ((runCommands_replicate_update (n + 2) s).symm.trans hrun)
  have hconn (k : Nat) (hk : k ≤ n + 1) : (update^[k + 1] s).conn.state ≠ .connected :=
    hidle k _ hk (runCommands_replicate_update (k + 1) s)
  have hlast := exec_update_iterate (n + 1) s
  obtain ⟨hword, -, -, hgear, -, hseq, -⟩ :=
    updateGoesIdleWhenNotConnected _ _ (exec_update_iterate n s) (hconn n (by omega))
  obtain ⟨hword', -, -, hgear', -, hseq', -⟩ := updateGoesIdleWhenNotConnected _ _ hlast (hconn (n + 1) le_rfl)
  obtain ⟨hchg, hres⟩ := update_of_idle hlast (hconn (n + 1) le_rfl) hword hgear hseq
  exact ⟨hchg, hres, hword', hgear', hseq'⟩

end Sys2Proof.Machine
end

section
/-! No exception (`60_exceptions.md` R280): every command completes, and no step faults. -/

namespace Sys2Proof.Machine

/-- The block raises no exception (R280): `Fault` has no constructor, so there is no fault for a step to answer. -/
theorem step_ne_fault (s : State) (r : Fault) : step s ≠ .fault r := nomatch r

/-- Settles O17: `exec_completes` names the next state of each command, and there is no fault to answer. -/
theorem everyCommandCompletes : Obligations.EveryCommandCompletes := by
  refine ⟨fun i s => ?completes, step_ne_fault⟩
  case completes =>
    obtain ⟨t, hexec, -⟩ := exec_completes i s
    exact ⟨t, hexec⟩

end Sys2Proof.Machine
end

section
/-! The millisecond clock (`70_reset_and_hazards.md` R310): the law of two successive samples. -/

namespace Sys2Proof.Machine

/-- The second of two successive samples counts the time before the first and the time between them. -/
theorem nowMs_takeNowMs (s : State) :
    s.takeNowMs.nowMs = BitVec.ofNat 32 (s.env.clock + s.elapsedNext + s.takeNowMs.elapsedNext) := rfl

/-- Settles O26: the count before the first sample and the time up to it stand in both samples and cancel. -/
theorem clockSamplesObeyTheLaw : Obligations.ClockSamplesObeyTheLaw := by
  intro s
  rw [nowMs_takeNowMs, State.nowMs]
  refine ⟨?modular, toNat_ofNat_add_sub⟩
  case modular => rw [BitVec.ofNat_add, BitVec.add_comm, BitVec.add_sub_cancel]

end Sys2Proof.Machine
end

section
/-! The step during reset (`70_reset_and_hazards.md` R300): what driving `rst_n` gives, and the one refusal (U10). -/

namespace Sys2Proof.Machine

theorem step_eq_makeMove {s : State} {m : HostMove} {rest : List HostMove} (hmoves : s.env.moves = m :: rest) :
    step s = makeMove m s.popMove := by
  unfold step hostStep
  rw [hmoves]

/-! Driving `rst_n`. -/

/-- Driven to 0, or from 0 back to 1, `rst_n` gives the reset values and leaves the world but for its level. -/
theorem driveReset_eq_resetIn {l : Bool} {s : State} (hreset : l = false ∨ s.env.rstN = false) :
    driveReset l s = State.resetIn { s.env with rstN := l } := by
  refine if_neg ?_
  rintro ⟨hl, hrst⟩
  simp [hl, hrst] at hreset

theorem flagsWord_clear : Flags.word ⟨false, false, false, false, false, false⟩ = 0 := by decide

/-- Settles O12: the next state is the reset values, and these are the ones R42 lists. -/
theorem resetDriveGivesTheResetValues : Obligations.ResetDriveGivesTheResetValues := by
  intro s l rest hmoves hreset
  have hstep : step s = .next (State.resetIn { s.env with moves := rest, rstN := l }) := by
    have hdrive := driveReset_eq_resetIn (s := s.popMove) hreset
    rw [step_eq_makeMove hmoves, makeMove, hdrive, popMove_env, hmoves, List.tail_cons]
  exact ⟨_, hstep, rfl, rfl, rfl, rfl, rfl, flagsWord_clear, rfl, rfl, rfl, rfl, rfl, rfl, rfl, rfl, rfl, rfl, rfl, rfl,
    rfl, rfl, rfl, rfl⟩

/-! The refusal. -/

/-- No command word stops the machine: a command completes (R280), a reserved word does nothing (R105). -/
theorem runCommand_ne_refused (cw : CmdWord) (s : State) (r : Refusal) : runCommand cw s ≠ .refused r := by
  unfold runCommand
  split
  next i _ =>
    obtain ⟨t, hexec, -⟩ := exec_completes i s
    simp [hexec]
  next => simp

theorem hostWrite_ne_refused (a : RegAddr) (v : Word) (s : State) (r : Refusal) : hostWrite a v s ≠ .refused r := by
  unfold hostWrite
  split
  · exact runCommand_ne_refused _ s r
  · simp

/-- A move is refused exactly when it is a transfer and `rst_n` is 0 (R300, U10). -/
theorem makeMove_eq_refused_iff {m : HostMove} {s : State} {r : Refusal} :
    makeMove m s = .refused r ↔ r = .transferDuringReset ∧ s.env.rstN = false ∧ ∀ l, m ≠ .rst l := by
  cases m with
  | rst level => simp [makeMove]
  | read a => cases hrst : s.env.rstN <;> simp [makeMove, hrst, eq_comm (b := r)]
  | write a v => cases hrst : s.env.rstN <;> simp [makeMove, hrst, hostWrite_ne_refused, eq_comm (b := r)]

theorem step_eq_refused_iff {s : State} {r : Refusal} :
    step s = .refused r ↔ r = .transferDuringReset ∧ s.env.rstN = false ∧
      ∃ m rest, s.env.moves = m :: rest ∧ ∀ l, m ≠ .rst l := by
  cases hmoves : s.env.moves with
  | nil => simp [step_eq_next_of_moves_nil hmoves]
  | cons m rest => simp [step_eq_makeMove hmoves, makeMove_eq_refused_iff]

/-- Settles O13, by the moves that are refused; no step faults (O17). -/
theorem onlyTransfersDuringResetAreRefused : Obligations.OnlyTransfersDuringResetAreRefused :=
  fun s => ⟨by simp [step_eq_refused_iff], fun _ hstep => (step_eq_refused_iff.mp hstep).1, step_ne_fault s⟩

end Sys2Proof.Machine
end

section
/-! The lines after a service (`70_reset_and_hazards.md` R313): BSERVICE makes the enables follow the connection, and what
UPDATE does after BSERVICE keeps them so. -/

namespace Sys2Proof.Machine

/-- The bus lines are driven exactly while the device is connected and `CFG` says the bus is present, the LED line only
then (R313). -/
def State.LinesFollow (s : State) : Prop := s.pin.busOe = s.busOn ∧ (s.pin.ledOe = true → s.busOn = true)

theorem busOn_congr {s t : State} (hcfg : t.cfg = s.cfg) (hstate : t.conn.state = s.conn.state) : t.busOn = s.busOn := by
  rw [Bool.eq_iff_iff, busOn_eq_true_iff, busOn_eq_true_iff, hcfg, hstate]

theorem bservice_busOn (s : State) : (bservice s).busOn = s.busOn := by
  obtain ⟨w, p, e, hservice, -⟩ := bservice_touches s
  rw [hservice]
  exact busOn_congr rfl rfl

/-- BSERVICE drives released lines on the connected path and releases driven lines off it (R221 to R223). -/
theorem bservice_linesFollow {s : State} (hbus : s.pin.busOe = s.srb.driven)
    (hled : s.pin.ledOe = true → s.srb.driven = true) : (bservice s).LinesFollow := by
  obtain ⟨w, p, e, hservice, hpath, -⟩ := bservice_touches s
  have hpin : (bservice s).pin = p := by rw [hservice]; rfl
  rw [State.LinesFollow, bservice_busOn, hpin]
  obtain ⟨hon, -, -, hdriven⟩ | ⟨hoff, -, -, -, hdriven⟩ := hpath
  · refine ⟨?_, fun _ => hon⟩
    obtain ⟨hd, hkept, -⟩ | ⟨-, hset⟩ := hdriven
    · rw [hkept, hbus, hd, hon]
    · rw [hset, hon]
  · obtain ⟨-, hbusOe, hledOe⟩ | ⟨hd, rfl⟩ := hdriven
    · simp [hbusOe, hledOe, hoff]
    · simpa [hbus, hd, hoff] using hled

/-- A command that neither touches the lines nor polls the connection keeps them in step (R104). -/
theorem State.LinesFollow.of_exec {i : Instr} {s t : State} (h : s.LinesFollow) (hexec : exec i s = .next t)
    (hupdate : i ≠ .update) (hcpoll : i ≠ .cpoll) (hbservice : i ≠ .bservice) (hbsetled : i ≠ .bsetled) :
    t.LinesFollow := by
  obtain ⟨⟨-, -, hcfg, -⟩, -, -, -, hpin, -⟩ := onlyItsCommandsWriteAnElement i s t hexec
  rw [State.LinesFollow, busOn_congr hcfg (connState_of_exec hexec hupdate hcpoll), hpin hupdate hbservice hbsetled]
  exact h

/-- The flags and `RES` are no lines. -/
theorem State.LinesFollow.reported {s : State} (h : s.LinesFollow) : s.reported.LinesFollow := h

/-- After BSERVICE, UPDATE runs GUPDATE and SSTEP and reports: none of these touches the lines (R262). -/
theorem update_linesFollow {s : State} (hbus : s.pin.busOe = s.srb.driven)
    (hled : s.pin.ledOe = true → s.srb.driven = true) : (update s).LinesFollow := by
  obtain ⟨c, e, hcpoll, -⟩ := cpoll_touches s
  have hserviced : (bservice (cpoll s)).LinesFollow := by
    rw [hcpoll]
    exact bservice_linesFollow hbus hled
  have hgeared : (gupdate (bservice (cpoll s))).LinesFollow :=
    hserviced.of_exec (i := .gupdate) rfl (by simp) (by simp) (by simp) (by simp)
  have hstepped : (updateCalls s).LinesFollow :=
    hgeared.of_exec (i := .sstep) rfl (by simp) (by simp) (by simp) (by simp)
  exact hstepped.reported

/-- Lines in step are high impedance while the device is not connected or the bus not present (R40, R313). -/
theorem State.LinesFollow.released {s : State} (h : s.LinesFollow) (hoff : ¬ s.busOn = true) :
    s.wireLatch = none ∧ s.wireClock = none ∧ s.wireLed = none := by
  obtain ⟨hbus, hled⟩ := h
  have hledOe : ¬ s.pin.ledOe = true := mt hled hoff
  simp [State.wireLatch, State.wireClock, State.wireLed, wire, hbus, hoff, hledOe]

/-- Settles O53: after either command the lines are in step with the connection. -/
theorem linesAreReleasedUnlessConnected : Obligations.LinesAreReleasedUnlessConnected := by
  intro i s t hi hbus hled hexec
  have hfollow : t.LinesFollow := by
    obtain rfl | rfl := hi
    · obtain rfl := Host.Outcome.next.inj hexec
      exact bservice_linesFollow hbus hled
    · obtain rfl := Host.Outcome.next.inj ((exec_update s).symm.trans hexec)
      exact update_linesFollow hbus hled
  have hon : t.busOn = true ↔ t.conn.state = .connected ∧ t.cfg[4] = true := busOn_eq_true_iff.trans and_comm
  refine ⟨?_, fun hnot => hfollow.released (mt hon.mp hnot)⟩
  rw [hfollow.1, hon]

end Sys2Proof.Machine
end
